-- ==== Sys2Proof/Word.lean ====
section
/-! DEFINITION. The machine's value types of fixed width (spec/00_scope.md R8: every value is unsigned, bits are
numbered from 0 at the least significant bit). -/

namespace Sys2Proof

/-- A byte of the wire: what one exchange transmits and what it receives (R8, R61). -/
abbrev Byte := BitVec 8

/-- The four bits of the position that arrive first (R31, R95). -/
abbrev Nibble := BitVec 4

/-- POSITION_BITS = 12 (R6). -/
abbrev positionBits : Nat := 12

/-- A position, 0 to 4095 (R33, R97). -/
abbrev Position := BitVec positionBits

/-- What the bus transport answers to one exchange: a byte, or the outcome BusFault (spec/40_bus_transport.md
R120; spec/20_memory.md R71). -/
inductive Answer where
  | byte (b : Byte)
  | busFault
deriving DecidableEq, Repr, Inhabited

end Sys2Proof
end

