-- ==== Sys2Proof/Config.lean ====
section
/-! DEFINITION. What the spec leaves to the implementation or leaves free: constants without a body, so that no
proof can rest on their values. -/

namespace Sys2Proof

/-- One less than MAX_ATTEMPTS: the open parameter is a natural number, at least 1 (R6, R7; log entry 2). -/
opaque Config.maxAttemptsPred : Nat

/-- MAX_ATTEMPTS as the machine has it after reset (R6). -/
def Config.maxAttempts : Nat := Config.maxAttemptsPred + 1

/-- Which numbers beside 0 to 3 name a line: open (R6, D16; log entry 1). -/
opaque Config.moreLines : Nat → Bool

/-- Which numbers name a line. Four do in any case, since a configuration has four distinct lines (R6, R22). -/
def Config.isLine (n : Nat) : Bool := decide (n < 4) || Config.moreLines n

/-- A line identifier. The type is open, with decidable equality (R6, R108, D16): it is whatever set of at least four
identifiers the implementation has, listed by numbers (log entry 1). -/
structure LineId where
  code : Nat
  isLine : Config.isLine code = true
deriving DecidableEq, Repr

/-- The transport's answer to an exchange no script foretells, for the n-th exchange since reset: a free value among
the 256 bytes and BusFault (R71; log entry 3). -/
opaque Config.freeAnswer : Nat → Answer

end Sys2Proof
end

