-- ==== Sys2Proof/Syntax.lean ====
section
/-! DEFINITION. The names the machine is written with (phases, commands, the bus configuration, the host's calls)
and the ONE inductive of instructions, a constructor for each row of spec/opcode_table.json. -/

namespace Sys2Proof

/-- The eight values of session.phase (spec/10_state.md R26). The code NONE is no phase: where a phase is reported
it is the absence of one. -/
inductive Phase where
  /-- CB_SYNC: the no-op loop of clear_buffer. -/
  | cbSync
  /-- RP_CMD: phase 1 of read_pos. -/
  | rpCmd
  /-- RP_ECHO: phase 2 of read_pos. -/
  | rpEcho
  /-- RP_SHIFT: phase 3 of read_pos. -/
  | rpShift
  /-- RP_MSB: phase 4 of read_pos. -/
  | rpMsb
  /-- RP_LSB: phase 5 of read_pos. -/
  | rpLsb
  /-- SZ_CMD: the command transfer of set_zero. -/
  | szCmd
  /-- SZ_ACK: the acknowledgement loop of set_zero. -/
  | szAck
deriving DecidableEq, Repr

/-- The recognised commands, the values of session.cmd (R27). -/
inductive Cmd where
  /-- CB: clear_buffer. -/
  | cb
  /-- RP: read_pos. -/
  | rp
  /-- SZ: set_zero. -/
  | sz
deriving DecidableEq, Repr

/-- The clock mode, a pair of booleans without a numbering (spec/30_encoding.md R107). -/
structure ClockMode where
  phase : Bool
  polarity : Bool
deriving DecidableEq, Repr

/-- A BusConfiguration record, the operand of configure and the value of cfg (R22, R104 to R108). -/
structure BusConfiguration where
  csLine : LineId
  clkLine : LineId
  misoLine : LineId
  mosiLine : LineId
  clockMode : ClockMode
  /-- The 16-bit encoding of the divisor, 0 standing for 65536 (R106). -/
  speedDivisor : BitVec 16
  /-- The 8-bit options field (R104). -/
  options : BitVec 8
deriving DecidableEq, Repr

/-- Why a BusConfiguration lies outside the rules (R129, R105, R65). -/
inductive ConfigDefect where
  /-- Two of the four line identifiers are equal (R22, R129). -/
  | linesNotDistinct
  /-- Bit 3 or bit 2 of the options is set (R105). -/
  | reservedOptionBits
  /-- Bits 7 to 4 of the options are not 0: the final byte would be shortened (R65). -/
  | shortFinalByte
deriving DecidableEq, Repr

/-- What the host can present: an identifier on host.command, or a record on host.configure
(spec/41_command_sequencer.md R140). -/
inductive HostCall where
  | command (id : String)
  | configure (c : BusConfiguration)
deriving DecidableEq, Repr

/-- The instructions, one constructor for each row of spec/opcode_table.json (R109). A `tx` row is the exchange that
transmits its opcode; an `rx` row is the exchange that receives its frame, and carries the byte received (log
entry 4); a `host` row is a call of the host. -/
inductive Instr where
  /-- NO_OP (R91): the exchange of a phase that transmits 0x00. -/
  | txNoOp
  /-- READ_POSITION (R91, R192): the exchange that transmits 0x10. -/
  | txReadPosition
  /-- SET_ZERO (R91, R222): the exchange that transmits 0x70. -/
  | txSetZero
  /-- ACK_IDLE (R94, R173, R174): the exchange of CB_SYNC that receives `rx`, compared with 0xA5. -/
  | rxAckIdle (rx : Byte)
  /-- ECHO_READ (R94, R193): the exchange of RP_ECHO that receives `rx`, compared with 0x10. -/
  | rxEchoRead (rx : Byte)
  /-- ACK_ZERO (R94, R223): the exchange of SZ_ACK that receives `rx`, compared with 0x80. -/
  | rxAckZero (rx : Byte)
  /-- RX_UNINSPECTED (R94): the exchange of RP_CMD, RP_SHIFT or SZ_CMD that receives `x` and ignores it. -/
  | rxUninspected (x : Byte)
  /-- DATA_MSB (R95): the exchange of RP_MSB; `x` are bits 7 to 4, ignored, `h` bits 3 to 0. -/
  | rxDataMsb (x : Nibble) (h : Nibble)
  /-- DATA_LSB (R96): the exchange of RP_LSB; `l` is the whole byte. -/
  | rxDataLsb (l : Byte)
  /-- clear_buffer (R170): the host's call of that identifier. -/
  | hostClearBuffer
  /-- read_pos (R190). -/
  | hostReadPos
  /-- set_zero (R220). -/
  | hostSetZero
  /-- The class of unrecognised identifiers (R144). -/
  | hostUnrecognised (id : String)
  /-- configure (R126). -/
  | hostConfigure (c : BusConfiguration)
deriving DecidableEq, Repr

end Sys2Proof
end

