-- ==== Sys2Proof/Machine/Operands.lean ====
section
/-! DEFINITION. The operand forms: recognition of an identifier, the fields and the validity of a configuration, the
fields of the two data formats, and the position decoder. (It stands before WellFormed and Decode, which use it; it
lies under Machine so that all of it can be mended.) -/

namespace Sys2Proof

/-! ### Identifiers (spec/30_encoding.md R98, R99) -/

/-- The command an identifier names, by exact equality of the whole string (spec/30_encoding.md R98). -/
def recognise (id : String) : Option Cmd :=
  if id = "clear_buffer" then some .cb
  else if id = "read_pos" then some .rp
  else if id = "set_zero" then some .sz
  else none

/-! ### Configurations (R104 to R108, spec/40_bus_transport.md R129) -/

/-- The divisor a 16-bit encoding means: 65536 for 0, else itself (R106). -/
def divisorOf (d : BitVec 16) : Nat := if d = 0 then 65536 else d.toNat

/-- cs_disable, bit 0 of the options: 0 enables the active-low chip-select, 1 disables it (R104). -/
def csDisable (options : BitVec 8) : BitVec 1 := options.extractLsb' 0 1

/-- no_auto_dir, bit 1 of the options: 1 suppresses the automatic change of direction (R104). -/
def noAutoDir (options : BitVec 8) : BitVec 1 := options.extractLsb' 1 1

/-- Bits 3 and 2 of the options, reserved (R105). -/
def reservedBits (options : BitVec 8) : BitVec 2 := options.extractLsb' 2 2

/-- final_bits, bits 7 to 4 of the options (R104). -/
def finalBits (options : BitVec 8) : BitVec 4 := options.extractLsb' 4 4

/-- The number of bits of the final byte that are clocked: 8 where final_bits is 0 (R104). -/
def finalBitCount (options : BitVec 8) : Nat :=
  if finalBits options = 0 then 8 else (finalBits options).toNat

/-- The four line identifiers are pairwise distinct (R22). -/
def BusConfiguration.linesDistinct (c : BusConfiguration) : Bool :=
  c.csLine != c.clkLine && c.csLine != c.misoLine && c.csLine != c.mosiLine &&
    c.clkLine != c.misoLine && c.clkLine != c.mosiLine && c.misoLine != c.mosiLine

/-- The first defect of a configuration, if it has one (R129). -/
def BusConfiguration.defect (c : BusConfiguration) : Option ConfigDefect :=
  if c.linesDistinct = false then some .linesNotDistinct
  else if reservedBits c.options ≠ 0 then some .reservedOptionBits
  else if finalBits c.options ≠ 0 then some .shortFinalByte
  else none

/-! ### Data bytes and the position decoder (R95 to R97, spec/43_read_position.md R196 to R199) -/

/-- NIBBLE_MASK = 0x0F (R6). -/
def nibbleMask : Byte := 0x0F

/-- Bits 7 to 4 of a DATA_MSB byte, ignored (R95). -/
def ignoredNibble (b : Byte) : Nibble := b.extractLsb' 4 4

/-- Bits 3 to 0 of a DATA_MSB byte: position bits 11 to 8 (R95). -/
def positionNibble (b : Byte) : Nibble := b.extractLsb' 0 4

/-- The DATA_MSB byte of its two fields (R95). -/
def dataMsbByte (x h : Nibble) : Byte := x ++ h

/-- What RP_MSB latches: the received byte masked with 0x0F, as four bits (R196). -/
def latchNibble (b : Byte) : Nibble := (b &&& nibbleMask).setWidth 4

/-- The position of a nibble and a byte, both widened to POSITION_BITS: (msb << 8) | lsb (R198). -/
def assemblePosition (msb : Nibble) (lsb : Byte) : Position :=
  (msb.setWidth positionBits <<< 8) ||| lsb.setWidth positionBits

/-- The position of the two raw bytes of RP_MSB and RP_LSB (R198). -/
def decodePosition (b4 b5 : Byte) : Position := assemblePosition (latchNibble b4) b5

end Sys2Proof
end

