-- ==== Sys2Proof/WellFormed.lean ====
section
/-! DEFINITION. Which instructions are well formed. Every wire frame is (R94, R110: no received byte is illegal); an
identifier of the unrecognised class differs from the three commands (R98); the operand of configure meets the
invariants of spec/40_bus_transport.md R129. -/

namespace Sys2Proof

/-- The instructions the encodings of the spec admit. -/
def Instr.wellFormed : Instr → Bool
  | .txNoOp => true
  | .txReadPosition => true
  | .txSetZero => true
  | .rxAckIdle _ => true
  | .rxEchoRead _ => true
  | .rxAckZero _ => true
  | .rxUninspected _ => true
  | .rxDataMsb _ _ => true
  | .rxDataLsb _ => true
  | .hostClearBuffer => true
  | .hostReadPos => true
  | .hostSetZero => true
  | .hostUnrecognised id => (recognise id).isNone
  | .hostConfigure c => c.defect.isNone

end Sys2Proof
end

