-- ==== Sys2Proof/Decode.lean ====
section
/-! DEFINITION. The encodings of spec/30_encoding.md: the wire constants, the six formats, decoding (total, rejecting
by name), the encoder, and the opcode table's view of a one-byte word. -/

namespace Sys2Proof

/-! ### The wire constants (R91, R94; spec/93 U9: named, so that a corrected literal is one change) -/

/-- NO_OP = 0x00. -/
def opcodeNoOp : Byte := 0x00

/-- READ_POSITION = 0x10. -/
def opcodeReadPosition : Byte := 0x10

/-- SET_ZERO = 0x70. -/
def opcodeSetZero : Byte := 0x70

/-- ACK_IDLE = 0xA5. -/
def valueAckIdle : Byte := 0xA5

/-- ECHO_READ = 0x10. -/
def valueEchoRead : Byte := 0x10

/-- ACK_ZERO = 0x80. -/
def valueAckZero : Byte := 0x80

/-! ### Formats and frames -/

/-- The six formats (R90). -/
inductive Format where
  /-- WIRE_TX: a byte from block to slave. -/
  | wireTx
  /-- WIRE_RX: a byte from slave to block, compared or discarded. -/
  | wireRx
  /-- DATA_MSB: the byte of RP_MSB. -/
  | dataMsb
  /-- DATA_LSB: the byte of RP_LSB. -/
  | dataLsb
  /-- HOST_CMD: an identifier string. -/
  | hostCmd
  /-- CFG: the operand of configure. -/
  | cfg
deriving DecidableEq, Repr

/-- What a decoder of this block is handed: a byte going out, a byte coming in together with the phase that receives
it (R94: how a received byte is treated depends on the phase alone), an identifier string (R98, R99) or a
configuration record (R100). -/
inductive Frame where
  | wireTx (b : Byte)
  | wireRx (p : Phase) (b : Byte)
  | hostCmd (id : String)
  | cfg (c : BusConfiguration)
deriving DecidableEq, Repr

/-- The format of the byte a phase receives (R94). -/
def Phase.rxFormat : Phase → Format
  | .rpMsb => .dataMsb
  | .rpLsb => .dataLsb
  | .cbSync => .wireRx
  | .rpCmd => .wireRx
  | .rpEcho => .wireRx
  | .rpShift => .wireRx
  | .szCmd => .wireRx
  | .szAck => .wireRx

/-- The format of a frame (R90). -/
def Frame.format : Frame → Format
  | .wireTx _ => .wireTx
  | .wireRx p _ => p.rxFormat
  | .hostCmd _ => .hostCmd
  | .cfg _ => .cfg

/-- Why a frame decodes to no instruction. -/
inductive DecodeError where
  /-- A byte the block never transmits (R93). -/
  | notAnOpcode (b : Byte)
  /-- A configuration outside the rules (R129). -/
  | invalidConfiguration (d : ConfigDefect)
deriving DecidableEq, Repr

/-! ### Decoding -/

/-- The instruction of a transmitted byte (R91); the 253 other bytes are never transmitted (R93). -/
def decodeTx (b : Byte) : Except DecodeError Instr :=
  if b = opcodeNoOp then .ok .txNoOp
  else if b = opcodeReadPosition then .ok .txReadPosition
  else if b = opcodeSetZero then .ok .txSetZero
  else .error (.notAnOpcode b)

/-- The instruction of a byte received in a phase (R94): total, no received byte is illegal. -/
def decodeRx : Phase → Byte → Instr
  | .cbSync, b => .rxAckIdle b
  | .rpCmd, b => .rxUninspected b
  | .rpEcho, b => .rxEchoRead b
  | .rpShift, b => .rxUninspected b
  | .rpMsb, b => .rxDataMsb (ignoredNibble b) (positionNibble b)
  | .rpLsb, b => .rxDataLsb b
  | .szCmd, b => .rxUninspected b
  | .szAck, b => .rxAckZero b

/-- The instruction of an identifier string (R98, R99). -/
def decodeHost (id : String) : Instr :=
  match recognise id with
  | some .cb => .hostClearBuffer
  | some .rp => .hostReadPos
  | some .sz => .hostSetZero
  | none => .hostUnrecognised id

/-- The instruction of a configuration record; one outside the rules is rejected with its defect (R129). -/
def decodeConfig (c : BusConfiguration) : Except DecodeError Instr :=
  match c.defect with
  | some d => .error (.invalidConfiguration d)
  | none => .ok (.hostConfigure c)

/-- Decoding: total on every frame, rejecting by name. -/
def decode : Frame → Except DecodeError Instr
  | .wireTx b => decodeTx b
  | .wireRx p b => .ok (decodeRx p b)
  | .hostCmd id => .ok (decodeHost id)
  | .cfg c => decodeConfig c

/-! ### Encoding -/

/-- Every frame that stands for an instruction: one, but for RX_UNINSPECTED, whose byte three phases receive
(R94). -/
def encodings : Instr → List Frame
  | .txNoOp => [.wireTx opcodeNoOp]
  | .txReadPosition => [.wireTx opcodeReadPosition]
  | .txSetZero => [.wireTx opcodeSetZero]
  | .rxAckIdle rx => [.wireRx .cbSync rx]
  | .rxEchoRead rx => [.wireRx .rpEcho rx]
  | .rxAckZero rx => [.wireRx .szAck rx]
  | .rxUninspected x => [.wireRx .rpCmd x, .wireRx .rpShift x, .wireRx .szCmd x]
  | .rxDataMsb x h => [.wireRx .rpMsb (dataMsbByte x h)]
  | .rxDataLsb l => [.wireRx .rpLsb l]
  | .hostClearBuffer => [.hostCmd "clear_buffer"]
  | .hostReadPos => [.hostCmd "read_pos"]
  | .hostSetZero => [.hostCmd "set_zero"]
  | .hostUnrecognised id => [.hostCmd id]
  | .hostConfigure c => [.cfg c]

/-- The frame an instruction is written as: the first of its encodings. -/
def encode : Instr → Frame
  | .txNoOp => .wireTx opcodeNoOp
  | .txReadPosition => .wireTx opcodeReadPosition
  | .txSetZero => .wireTx opcodeSetZero
  | .rxAckIdle rx => .wireRx .cbSync rx
  | .rxEchoRead rx => .wireRx .rpEcho rx
  | .rxAckZero rx => .wireRx .szAck rx
  | .rxUninspected x => .wireRx .rpCmd x
  | .rxDataMsb x h => .wireRx .rpMsb (dataMsbByte x h)
  | .rxDataLsb l => .wireRx .rpLsb l
  | .hostClearBuffer => .hostCmd "clear_buffer"
  | .hostReadPos => .hostCmd "read_pos"
  | .hostSetZero => .hostCmd "set_zero"
  | .hostUnrecognised id => .hostCmd id
  | .hostConfigure c => .cfg c

/-- The format of the row an instruction stands for (R109). -/
def Instr.format : Instr → Format
  | .txNoOp => .wireTx
  | .txReadPosition => .wireTx
  | .txSetZero => .wireTx
  | .rxAckIdle _ => .wireRx
  | .rxEchoRead _ => .wireRx
  | .rxAckZero _ => .wireRx
  | .rxUninspected _ => .wireRx
  | .rxDataMsb _ _ => .dataMsb
  | .rxDataLsb _ => .dataLsb
  | .hostClearBuffer => .hostCmd
  | .hostReadPos => .hostCmd
  | .hostSetZero => .hostCmd
  | .hostUnrecognised _ => .hostCmd
  | .hostConfigure _ => .cfg

/-! ### The opcode table's words -/

/-- The bytes of a word of `n` bytes, the first being the least significant. -/
def wordBytes : Nat → Nat → List Byte
  | 0, _ => []
  | n + 1, w => BitVec.ofNat 8 w :: wordBytes n (w / 256)

/-- The frame a bare wire byte is taken as where neither direction nor phase is given (log entry 5): a byte the block
transmits is that opcode, 0xA5 is received in CB_SYNC, 0x80 in SZ_ACK, and any other byte is one received unseen. -/
def tableFrame (b : Byte) : Frame :=
  if b = opcodeNoOp ∨ b = opcodeReadPosition ∨ b = opcodeSetZero then .wireTx b
  else if b = valueAckIdle then .wireRx .cbSync b
  else if b = valueAckZero then .wireRx .szAck b
  else .wireRx .rpCmd b

/-- The frame of a table word: its first byte, since a wire frame is exactly one byte (R103). -/
def tableWordFrame (nbits w : Nat) : Option Frame :=
  (wordBytes (nbits / 8) w).head?.map tableFrame

/-- The instruction the decoder reads from a word of the opcode table. -/
def decodeTableWord (nbits w : Nat) : Option Instr :=
  match tableWordFrame nbits w with
  | none => none
  | some f =>
    match decode f with
    | .ok i => some i
    | .error _ => none

end Sys2Proof
end

