-- ==== Sys2Proof/Machine/State.lean ====
section
/-! DEFINITION. The state of the machine (spec/10_state.md R20 to R34), the result record, the reasons a step can
stop, and the state after reset (R37). -/

namespace Sys2Proof.Machine

/-- The link-level states (R24). -/
inductive Link where
  | idle
  | syncing
  | ready
deriving DecidableEq, Repr

/-- The four fault kinds a command can end with (spec/60_exceptions.md R235). They are values handed to the caller,
not stops of the machine (R237, R252). -/
inductive FaultKind where
  /-- The transport answered BusFault (R238). -/
  | busFault
  /-- A handshake loop used up its budget (R239). -/
  | syncTimeout
  /-- The identifier is none of the three (R240). -/
  | invalidCommand
  /-- A recognised command before any configure (R241). -/
  | notConfigured
deriving DecidableEq, Repr

/-- What a success hands over besides its kind (R33, R152). -/
inductive Payload where
  /-- Nothing: the completion signal of clear_buffer and of configure. -/
  | completed
  /-- The position of read_pos. -/
  | position (p : Position)
  /-- The power-cycle notice of set_zero, the value of the flag power_cycle_required (R224). -/
  | powerCycleRequired (flag : Bool)
deriving DecidableEq, Repr

/-- The result record of host.result (R33): the payload exists only in a success (R237). `phase` is the phase in which
the command ended, none standing for NONE. -/
inductive Result where
  | ok (phase : Option Phase) (xfers : Nat) (payload : Payload)
  | fault (kind : FaultKind) (phase : Option Phase) (xfers : Nat)
deriving DecidableEq, Repr

/-- The ProtocolSession of a command in flight (R25). The two latches are options because before they are written
they hold no value (R31, R41). -/
structure Session where
  /-- session.cmd (R27). -/
  cmd : Cmd
  /-- session.phase, the program counter: the phase whose transfer comes next (R26). -/
  phase : Phase
  /-- session.xfers: the exchanges of this command that returned a byte (R28). -/
  xfers : Nat
  /-- session.attempts: the exchanges made in the current handshake loop (R29). -/
  attempts : Nat
  /-- session.msb_nibble (R31). -/
  msbNibble : Option Nibble
  /-- session.lsb_byte (R32). -/
  lsbByte : Option Byte
deriving DecidableEq, Repr

/-- The whole machine: the block's state (R20), the parameter and the inputs of its environment (R34; log entries 2,
3, 6), and what it has put out so far (R33, R140; log entry 8). -/
structure State where
  /-- configured: whether a configure has completed (R21). -/
  configured : Bool
  /-- cfg: the configuration snapshot, none while it holds no value (R22, R37, R41). -/
  cfg : Option BusConfiguration
  /-- link, a status output (R24). -/
  link : Link
  /-- session: present while a command is in flight (R25). -/
  session : Option Session
  /-- sync_count, the SyncCounter (R30, D17: a natural number). -/
  syncCount : Nat
  /-- The parameter MAX_ATTEMPTS, which no step writes (R6, R276; the model's own field). -/
  maxAttempts : Nat
  /-- The calls the host will present, in order; the model's own field (R101, R141). -/
  program : List HostCall
  /-- The answers the transport will give, in order, where a script foretells them; the model's own field (R71,
  R101). -/
  answers : List Answer
  /-- The exchanges made since reset, to which the free answers are applied; the model's own field. -/
  draws : Nat
  /-- The transmit trace: every byte handed to the transport, in order (R67, R157); the model's own field. -/
  txTrace : List Byte
  /-- The results delivered on host.result, in order (R252); the model's own field. -/
  results : List Result
  /-- The records passed on bus.configure, in order (R126, R140); the model's own field. -/
  busConfigures : List BusConfiguration
deriving DecidableEq, Repr

/-- Stops with a fault: there are none. The taxonomy of the spec is closed and its four kinds are results of a command,
after which the machine goes on (R236, R252); see FaultKind. -/
inductive Fault where
deriving DecidableEq, Repr

/-- Refusals: inputs for which the spec has no step. Each is safe: the model proves nothing of what follows. -/
inductive Refusal where
  /-- Raised by an arm of exec that has no meaning yet; no arm is left without one. Safe. -/
  | notModelled (mnemonic : String)
  /-- Raised by every host call while a session is present: the spec has no step for it (R141, R252). Safe. -/
  | hostCallWhileBusy
  /-- Raised by configure on a record that breaks a precondition (R105, R129, R252). Safe. -/
  | invalidConfiguration (d : ConfigDefect)
  /-- Raised by a wire instruction while no session is present: no exchange happens outside a phase step (R125). Safe;
  step never gets there. -/
  | exchangeOutsideSession
  /-- Raised by a wire instruction whose frame the present phase neither transmits nor receives: no phase is entered
  but by R147. Safe; step never gets there. -/
  | frameNotOfPhase (p : Phase)
  /-- Raised by RP_LSB in a session whose nibble has not been latched: a read of state that was never written has no step
  (R41, spec/93_implementation_defined.md U6). Safe; no reachable state gets there. -/
  | unwrittenLatch
  /-- Raised for a transmitted byte that is no opcode (R93). Safe; step never gets there. -/
  | notAnOpcode (b : Byte)
deriving DecidableEq, Repr

/-- The machine right after reset (R37, R270). The block's elements stand as R37 gives them; the fields of the
environment hold no call and no script, nothing has been put out, and MAX_ATTEMPTS is the open parameter. -/
def State.reset : State where
  configured := false
  cfg := none
  link := .idle
  session := none
  syncCount := 0
  maxAttempts := Config.maxAttempts
  program := []
  answers := []
  draws := 0
  txTrace := []
  results := []
  busConfigures := []

end Sys2Proof.Machine
end

