-- ==== Sys2Proof/Machine/Flags.lean ====
section
/-! DEFINITION. The codes and flags of the block's outputs. The fields of the result record are the block's only flags
(spec/10_state.md R33); the numbers are the spec's conventions (R24, R26, R33, R235). -/

namespace Sys2Proof.Machine

/-- The code of link on host.link, two bits (R24). -/
def Link.code : Link → BitVec 2
  | .idle => 0
  | .syncing => 1
  | .ready => 2

/-- The 4-bit code of a reported phase, 0 for NONE (R26). -/
def phaseCode : Option Phase → BitVec 4
  | none => 0
  | some .cbSync => 1
  | some .rpCmd => 2
  | some .rpEcho => 3
  | some .rpShift => 4
  | some .rpMsb => 5
  | some .rpLsb => 6
  | some .szCmd => 7
  | some .szAck => 8

/-- The code of a fault kind (R235). -/
def FaultKind.code : FaultKind → BitVec 3
  | .busFault => 1
  | .syncTimeout => 2
  | .invalidCommand => 3
  | .notConfigured => 4

/-- The field kind of a result, three bits, 0 for OK (R33). -/
def Result.kind : Result → BitVec 3
  | .ok _ _ _ => 0
  | .fault k _ _ => k.code

/-- The field phase of a result (R33). -/
def Result.phase : Result → Option Phase
  | .ok p _ _ => p
  | .fault _ p _ => p

/-- The field xfers of a result (R33). -/
def Result.xfers : Result → Nat
  | .ok _ n _ => n
  | .fault _ _ n => n

/-- The field position, present only in a success of read_pos (R33). -/
def Result.position : Result → Option Position
  | .ok _ _ (.position p) => some p
  | .ok _ _ .completed => none
  | .ok _ _ (.powerCycleRequired _) => none
  | .fault _ _ _ => none

/-- The flag power_cycle_required, present only in a success of set_zero (R33, R224). -/
def Result.powerCycleRequired : Result → Option Bool
  | .ok _ _ (.powerCycleRequired f) => some f
  | .ok _ _ .completed => none
  | .ok _ _ (.position _) => none
  | .fault _ _ _ => none

/-- What the host reads on host.link (R140). -/
def State.linkPort (s : State) : BitVec 2 := s.link.code

end Sys2Proof.Machine
end

