-- ==== Sys2Proof/Machine/Ops.lean ====
section
/-! DEFINITION. The named operations of the machine: the exchange with the transport, entering a fault, ending a
command, and opening a session. -/

namespace Sys2Proof.Machine

/-- The three outcomes of a step, with this machine's reasons. -/
abbrev StepResult := Host.Outcome State Fault Refusal

/-! ### The exchange (spec/40_bus_transport.md R120) -/

/-- The transport's next answer: the script's, or a free value where the script has run out (R71, log entry 3). -/
def State.nextAnswer (s : State) : Answer :=
  match s.answers with
  | a :: _ => a
  | [] => Config.freeAnswer s.draws

/-- What an exchange leaves behind, whatever its answer: the byte handed over, the answer used up (R66, R157). -/
def State.afterXfer (s : State) (tx : Byte) : State :=
  { s with answers := s.answers.tail, draws := s.draws + 1, txTrace := s.txTrace ++ [tx] }

/-! ### Phases (R26, spec/30_encoding.md R92) -/

/-- TxByte: the byte a phase transmits (R92). -/
def txByte : Phase → Byte
  | .rpCmd => opcodeReadPosition
  | .szCmd => opcodeSetZero
  | .cbSync => opcodeNoOp
  | .rpEcho => opcodeNoOp
  | .rpShift => opcodeNoOp
  | .rpMsb => opcodeNoOp
  | .rpLsb => opcodeNoOp
  | .szAck => opcodeNoOp

/-- The handshake loops (R11, R148). -/
def isLoop : Phase → Bool
  | .cbSync => true
  | .rpEcho => true
  | .szAck => true
  | .rpCmd => false
  | .rpShift => false
  | .rpMsb => false
  | .rpLsb => false
  | .szCmd => false

/-- The command a phase belongs to (R26). -/
def phaseCmd : Phase → Cmd
  | .cbSync => .cb
  | .rpCmd => .rp
  | .rpEcho => .rp
  | .rpShift => .rp
  | .rpMsb => .rp
  | .rpLsb => .rp
  | .szCmd => .sz
  | .szAck => .sz

/-- The first phase of a command (R143). -/
def firstPhase : Cmd → Phase
  | .cb => .cbSync
  | .rp => .rpCmd
  | .sz => .szCmd

/-! ### Results, faults and the end of a command -/

/-- Deliver a result on host.result (R33, R251). -/
def State.deliver (s : State) (r : Result) : State :=
  { s with results := s.results ++ [r] }

/-- Entering BusFault or SyncTimeout, raised in a session: the result carries the phase and the count, the session is
discarded and link drops to IDLE; nothing else changes (spec/60_exceptions.md R244). There is no return from a fault:
this leaves the block ready for the next call (R249). -/
def State.raiseInSession (s : State) (k : FaultKind) (ss : Session) : State :=
  { s with
    results := s.results ++ [.fault k (some ss.phase) ss.xfers]
    session := none
    link := .idle }

/-- Entering InvalidCommand or NotConfigured, raised at dispatch: the result alone (R245). -/
def State.raiseAtDispatch (s : State) (k : FaultKind) : State :=
  s.deliver (.fault k none 0)

/-- `return OK(payload)` (spec/41_command_sequencer.md R152). -/
def State.returnOk (s : State) (ss : Session) (payload : Payload) : State :=
  { s with
    results := s.results ++ [.ok (some ss.phase) ss.xfers payload]
    session := none }

/-! ### The session -/

/-- A new session for a command (R143); the latches hold no value (R31, R191). -/
def Session.fresh (c : Cmd) : Session where
  cmd := c
  phase := firstPhase c
  xfers := 0
  attempts := 0
  msbNibble := none
  lsbByte := none

/-- An exchange that returned a byte is counted, in a handshake loop as an attempt too (R146). -/
def Session.counted (ss : Session) : Session :=
  { ss with
    xfers := ss.xfers + 1
    attempts := if isLoop ss.phase then ss.attempts + 1 else ss.attempts }

/-- Move to the next phase (R26). -/
def Session.goto (ss : Session) (p : Phase) : Session :=
  { ss with phase := p }

/-- Enter a handshake loop with a fresh budget (R29, R148). -/
def Session.enterLoop (ss : Session) (p : Phase) : Session :=
  { ss with phase := p, attempts := 0 }

/-- Write the session back. -/
def State.putSession (s : State) (ss : Session) : State :=
  { s with session := some ss }

/-- The host's call has been taken: the next one the host will present comes after it (R141). -/
def State.takeCall (s : State) : State :=
  { s with program := s.program.tail }

/-- Create the session of a command; no exchange happens (R143). -/
def State.openSession (s : State) (c : Cmd) : State :=
  s.putSession (Session.fresh c)

end Sys2Proof.Machine
end

