-- ==== Sys2Proof/Machine/SyncDetector.lean ====
section
/-! DEFINITION. The sync detector (spec/42_sync_detector.md): its counter, its three byte comparators (R156, R180),
and the entry and the one phase of clear_buffer. -/

namespace Sys2Proof.Machine

/-- SYNC_THRESHOLD = 2 (R6, R175). -/
def syncThreshold : Nat := 2

/-- The comparator of CB_SYNC: exact equality with 0xA5 (R173). -/
def isAckIdle (b : Byte) : Bool := b == valueAckIdle

/-- The comparator of RP_ECHO: exact equality with 0x10 (R180, R193). -/
def isEchoRead (b : Byte) : Bool := b == valueEchoRead

/-- The comparator of SZ_ACK: exact equality with 0x80 (R180, R223). -/
def isAckZero (b : Byte) : Bool := b == valueAckZero

/-- The SyncCounter after a received byte: one more on a match, 0 on any mismatch (R173, R174). -/
def nextSyncCount (n : Nat) (b : Byte) : Nat :=
  if isAckIdle b then n + 1 else 0

/-- Accepting clear_buffer: a session, the counter cleared, link SYNCING (R171). -/
def beginClearBuffer (s : State) : State :=
  { s.openSession .cb with syncCount := 0, link := .syncing }

/-- The update of CB_SYNC, the exit test following the count (R173 to R175). -/
def updateCbSync (s : State) (ss : Session) (b : Byte) : State :=
  let s' := { s with syncCount := nextSyncCount s.syncCount b }
  if s'.syncCount = syncThreshold then
    { s' with link := .ready }.returnOk ss .completed
  else
    s'.putSession ss

end Sys2Proof.Machine
end

