-- ==== Sys2Proof/Machine/ReadPosition.lean ====
section
/-! DEFINITION. The command read_pos (spec/43_read_position.md): its entry and the updates of its five phases. -/

namespace Sys2Proof.Machine

/-- Accepting read_pos: a session; link is left as it is (R191). -/
def beginReadPos (s : State) : State := s.openSession .rp

/-- The update of RP_CMD: the byte is not inspected, the echo wait begins with a full budget (R192). -/
def updateRpCmd (s : State) (ss : Session) (_b : Byte) : State :=
  s.putSession (ss.enterLoop .rpEcho)

/-- The update of RP_ECHO: leave the loop on the echo, else stay (R193). -/
def updateRpEcho (s : State) (ss : Session) (b : Byte) : State :=
  if isEchoRead b then s.putSession (ss.goto .rpShift) else s.putSession ss

/-- The update of RP_SHIFT: the byte is discarded (R195). -/
def updateRpShift (s : State) (ss : Session) (_b : Byte) : State :=
  s.putSession (ss.goto .rpMsb)

/-- The update of RP_MSB: the low four bits are latched (R196). -/
def updateRpMsb (s : State) (ss : Session) (b : Byte) : State :=
  s.putSession { ss.goto .rpLsb with msbNibble := some (latchNibble b) }

/-- The position a session's two latches give, where both have been written (R198). An unwritten latch holds no value,
so there is none to read (R41, spec/93_implementation_defined.md U6). -/
def sessionPosition (ss : Session) : Option Position :=
  match ss.msbNibble, ss.lsbByte with
  | some m, some l => some (assemblePosition m l)
  | none, _ => none
  | some _, none => none

/-- The update of RP_LSB: the byte is taken unmasked and the command ends with the position (R197, R198). Without a
latched nibble there is no step (U6, log entry 7); no reachable state shows that. -/
def updateRpLsb (s : State) (ss : Session) (b : Byte) : StepResult :=
  let ss' := { ss with lsbByte := some b }
  match sessionPosition ss' with
  | some p => .next (s.returnOk ss' (.position p))
  | none => .refused .unwrittenLatch

end Sys2Proof.Machine
end

