-- ==== Sys2Proof/Machine/SetZero.lean ====
section
/-! DEFINITION. The command set_zero (spec/44_set_zero.md): its entry and the updates of its two phases. -/

namespace Sys2Proof.Machine

/-- Accepting set_zero: a session; link is left as it is (R221). -/
def beginSetZero (s : State) : State := s.openSession .sz

/-- The update of SZ_CMD: the byte is not inspected, the acknowledgement wait begins with a full budget (R222). -/
def updateSzCmd (s : State) (ss : Session) (_b : Byte) : State :=
  s.putSession (ss.enterLoop .szAck)

/-- The update of SZ_ACK: the command ends with the power-cycle notice on 0x80, else the loop goes on (R223, R224). -/
def updateSzAck (s : State) (ss : Session) (b : Byte) : State :=
  if isAckZero b then s.returnOk ss (.powerCycleRequired true) else s.putSession ss

end Sys2Proof.Machine
end

