-- ==== Sys2Proof/Machine/Sequencer.lean ====
section
/-! DEFINITION. The command sequencer (spec/41_command_sequencer.md): dispatch of a host call and the phase step. -/

namespace Sys2Proof.Machine

/-! ### Dispatch (R142, R143) -/

/-- What accepting a recognised command does (R143). -/
def beginCommand : Cmd → State → State
  | .cb => beginClearBuffer
  | .rp => beginReadPos
  | .sz => beginSetZero

/-- The dispatch of a host command, given what its identifier was recognised as: the identifier is tested first, then
configured (R142, R247). While a session is present there is no such step (R141). -/
def dispatch (c : Option Cmd) (s : State) : StepResult :=
  match s.session with
  | some _ => .refused .hostCallWhileBusy
  | none =>
    match c with
    | none => .next (s.takeCall.raiseAtDispatch .invalidCommand)
    | some c =>
      if s.configured then .next (beginCommand c s.takeCall)
      else .next (s.takeCall.raiseAtDispatch .notConfigured)

/-! ### The phase step (R146) -/

/-- The rule of a phase, applied to the byte its exchange returned (R147). -/
def update (p : Phase) (s : State) (ss : Session) (b : Byte) : StepResult :=
  match p with
  | .cbSync => .next (updateCbSync s ss b)
  | .rpCmd => .next (updateRpCmd s ss b)
  | .rpEcho => .next (updateRpEcho s ss b)
  | .rpShift => .next (updateRpShift s ss b)
  | .rpMsb => .next (updateRpMsb s ss b)
  | .rpLsb => updateRpLsb s ss b
  | .szCmd => .next (updateSzCmd s ss b)
  | .szAck => .next (updateSzAck s ss b)

/-- The budget of the handshake loop is used up (R148). -/
def budgetSpent (s : State) (ss : Session) : Bool :=
  isLoop ss.phase && ss.attempts == s.maxAttempts

/-- The phase step of session `ss` whose exchange, if it is made, is answered `a`: the budget test, the exchange, the
abort on BusFault, the counts, the phase's rule (R146, R151). -/
def phaseStep (s : State) (ss : Session) (a : Answer) : StepResult :=
  if budgetSpent s ss then .next (s.raiseInSession .syncTimeout ss)
  else
    match a with
    | .busFault => .next ((s.afterXfer (txByte ss.phase)).raiseInSession .busFault ss)
    | .byte b => update ss.phase (s.afterXfer (txByte ss.phase)) ss.counted b

/-- The phase step seen from the transmitted frame: it is the step of a phase that transmits `op`, and the transport
answers what it will. -/
def txStep (op : Byte) (s : State) : StepResult :=
  match s.session with
  | none => .refused .exchangeOutsideSession
  | some ss =>
    if txByte ss.phase = op then phaseStep s ss s.nextAnswer
    else .refused (.frameNotOfPhase ss.phase)

/-- The phase step seen from the received frame: it is the step of one of the phases `ps`, answered `b`. -/
def rxStep (ps : List Phase) (b : Byte) (s : State) : StepResult :=
  match s.session with
  | none => .refused .exchangeOutsideSession
  | some ss =>
    if ss.phase ∈ ps then phaseStep s ss (.byte b)
    else .refused (.frameNotOfPhase ss.phase)

end Sys2Proof.Machine
end

