-- ==== Sys2Proof/Machine/HostCalls.lean ====
section
/-! DEFINITION. The meanings of the host's calls (format HOST_CMD, spec/30_encoding.md R98; configure,
spec/40_bus_transport.md R126). -/

namespace Sys2Proof.Machine

/-- clear_buffer, accepted (R142, R171). -/
def execHostClearBuffer (s : State) : StepResult := dispatch (some .cb) s

/-- read_pos, accepted (R142, R191). -/
def execHostReadPos (s : State) : StepResult := dispatch (some .rp) s

/-- set_zero, accepted (R142, R221). -/
def execHostSetZero (s : State) : StepResult := dispatch (some .sz) s

/-- An identifier of the unrecognised class (R142, R144). -/
def execHostUnrecognised (id : String) (s : State) : StepResult := dispatch (recognise id) s

/-- Applying a configuration: one call on the transport, the snapshot replaced whole, configured set, link IDLE, and
the result OK without a phase (R126, R128). -/
def applyConfiguration (c : BusConfiguration) (s : State) : State :=
  { s with
    busConfigures := s.busConfigures ++ [c]
    cfg := some c
    configured := true
    link := .idle
    results := s.results ++ [.ok none 0 .completed] }

/-- configure (R126): no step while a session is present (R141), and none for a record that breaks a precondition
(R129). -/
def execHostConfigure (c : BusConfiguration) (s : State) : StepResult :=
  match s.session with
  | some _ => .refused .hostCallWhileBusy
  | none =>
    match c.defect with
    | some d => .refused (.invalidConfiguration d)
    | none => .next (applyConfiguration c s.takeCall)

end Sys2Proof.Machine
end

