-- ==== Sys2Proof/Machine/WireRx.lean ====
section
/-! DEFINITION. The meanings of the received frames (formats WIRE_RX, DATA_MSB, DATA_LSB, spec/30_encoding.md R94 to
R96): each is the phase step of a phase that receives it, answered with the byte the instruction carries. -/

namespace Sys2Proof.Machine

/-- ACK_IDLE: the step of CB_SYNC answered `rx`, match or mismatch (R173 to R175). -/
def execRxAckIdle (rx : Byte) (s : State) : StepResult := rxStep [.cbSync] rx s

/-- ECHO_READ: the step of RP_ECHO answered `rx`, match or mismatch (R193, R194). -/
def execRxEchoRead (rx : Byte) (s : State) : StepResult := rxStep [.rpEcho] rx s

/-- ACK_ZERO: the step of SZ_ACK answered `rx`, match or mismatch (R223, R224). -/
def execRxAckZero (rx : Byte) (s : State) : StepResult := rxStep [.szAck] rx s

/-- RX_UNINSPECTED: the step of RP_CMD, RP_SHIFT or SZ_CMD, whatever byte came (R94, R192, R195, R222). -/
def execRxUninspected (x : Byte) (s : State) : StepResult := rxStep [.rpCmd, .rpShift, .szCmd] x s

/-- DATA_MSB: the step of RP_MSB (R196). -/
def execRxDataMsb (x h : Nibble) (s : State) : StepResult := rxStep [.rpMsb] (dataMsbByte x h) s

/-- DATA_LSB: the step of RP_LSB (R197, R198). -/
def execRxDataLsb (l : Byte) (s : State) : StepResult := rxStep [.rpLsb] l s

end Sys2Proof.Machine
end

