-- ==== Sys2Proof/Machine/WireTx.lean ====
section
/-! DEFINITION. The meanings of the transmitted opcodes (format WIRE_TX, spec/30_encoding.md R91): each is the phase
step of a phase that transmits it. -/

namespace Sys2Proof.Machine

/-- NO_OP: the step of CB_SYNC, RP_ECHO, RP_SHIFT, RP_MSB, RP_LSB or SZ_ACK (R91, R172, R193, R195 to R197, R223). -/
def execTxNoOp (s : State) : StepResult := txStep opcodeNoOp s

/-- READ_POSITION: the step of RP_CMD (R192). -/
def execTxReadPosition (s : State) : StepResult := txStep opcodeReadPosition s

/-- SET_ZERO: the step of SZ_CMD (R222). -/
def execTxSetZero (s : State) : StepResult := txStep opcodeSetZero s

end Sys2Proof.Machine
end

