-- ==== Sys2Proof/Machine/Dispatch.lean ====
section
/-! DEFINITION. The dispatch of an instruction to its meaning, one arm per row of spec/opcode_table.json. -/

namespace Sys2Proof.Machine

def exec (i : Instr) (s : State) : Host.Outcome State Fault Refusal :=
  match i with
  | .txNoOp => Sys2Proof.Machine.execTxNoOp s
  | .txReadPosition => Sys2Proof.Machine.execTxReadPosition s
  | .txSetZero => Sys2Proof.Machine.execTxSetZero s
  | .rxAckIdle rx => Sys2Proof.Machine.execRxAckIdle rx s
  | .rxEchoRead rx => Sys2Proof.Machine.execRxEchoRead rx s
  | .rxAckZero rx => Sys2Proof.Machine.execRxAckZero rx s
  | .rxUninspected x => Sys2Proof.Machine.execRxUninspected x s
  | .rxDataMsb x h => Sys2Proof.Machine.execRxDataMsb x h s
  | .rxDataLsb l => Sys2Proof.Machine.execRxDataLsb l s
  | .hostClearBuffer => Sys2Proof.Machine.execHostClearBuffer s
  | .hostReadPos => Sys2Proof.Machine.execHostReadPos s
  | .hostSetZero => Sys2Proof.Machine.execHostSetZero s
  | .hostUnrecognised id => Sys2Proof.Machine.execHostUnrecognised id s
  | .hostConfigure c => Sys2Proof.Machine.execHostConfigure c s

end Sys2Proof.Machine
end

