-- ==== Sys2Proof/Machine/Fetch.lean ====
section
/-! DEFINITION. Where a step gets its instruction: the phase register selects the byte to transmit while a session is
present, the host's next call otherwise; and the placing of a word of the opcode table there (log entries 5, 6). -/

namespace Sys2Proof.Machine

/-- The frame of a host call (R98, R100). -/
def callFrame : HostCall → Frame
  | .command id => .hostCmd id
  | .configure c => .cfg c

/-- The next frame: TxByte of the phase register (R92, R146), or the host's next call, accepted only while no session
is present (R141); none where the block is idle and no call is presented (R271). -/
def fetch (s : State) : Option Frame :=
  match s.session with
  | some ss => some (.wireTx (txByte ss.phase))
  | none => s.program.head?.map callFrame

/-- The frame that comes back in the same exchange, where the exchange is made and answered by a byte: the received
half of a full-duplex transfer (R120). -/
def fetchRx (s : State) : Option Frame :=
  match s.session with
  | none => none
  | some ss =>
    if budgetSpent s ss then none
    else
      match s.nextAnswer with
      | .byte b => some (.wireRx ss.phase b)
      | .busFault => none

/-- The refusal of a frame that decodes to no instruction. -/
def refusalOf : DecodeError → Refusal
  | .notAnOpcode b => .notAnOpcode b
  | .invalidConfiguration d => .invalidConfiguration d

/-- A session that stands at the beginning of phase `p`. -/
def sessionAt (p : Phase) : Session :=
  (Session.fresh (phaseCmd p)).goto p

/-- The phase in which a word of the table that is an opcode is placed: the one that transmits it, CB_SYNC for NO_OP. -/
def phaseOfOpcode (b : Byte) : Phase :=
  if b = opcodeReadPosition then .rpCmd
  else if b = opcodeSetZero then .szCmd
  else .cbSync

/-- Place a frame where the next step takes it: the phase register and the transport's next answer for a wire frame,
the host's next call otherwise. An opcode is placed with the answer 0x00, since an exchange needs one. -/
def placeFrame (s : State) : Frame → State
  | .wireTx b =>
    { s with session := some (sessionAt (phaseOfOpcode b)), answers := .byte 0x00 :: s.answers }
  | .wireRx p b =>
    { s with session := some (sessionAt p), answers := .byte b :: s.answers }
  | .hostCmd id => { s with session := none, program := .command id :: s.program }
  | .cfg c => { s with session := none, program := .configure c :: s.program }

/-- The state with a table word placed where the next step takes its instruction. -/
def placeTableWord (s : State) (nbits w : Nat) : State :=
  match tableWordFrame nbits w with
  | none => s
  | some f => placeFrame s f

end Sys2Proof.Machine
end

