-- ==== Sys2Proof/Machine/Step.lean ====
section
/-! DEFINITION. One step of the machine: the acceptance of a host call, or one phase step (spec/00_scope.md R11,
spec/41_command_sequencer.md R141, R146). -/

namespace Sys2Proof.Machine

/-- Fetch, decode, execute. With no session and no call presented the block is idle and the step changes nothing
(R271). -/
def step (s : State) : Host.Outcome State Fault Refusal :=
  match fetch s with
  | none => .next s
  | some f =>
    match decode f with
    | .error e => .refused (refusalOf e)
    | .ok i => exec i s

/-- The state with an instruction of the opcode table placed where step fetches its next instruction. -/
def State.withFetchWord (s : State) (nbits w : Nat) : State := placeTableWord s nbits w

end Sys2Proof.Machine
end

