-- ==== Sys2Proof/Safety.lean ====
section
/-! DEFINITION. The terms claims are made in: the invariants of spec/10_state.md R39, which results are legal
(spec/60_exceptions.md R242, spec/70_reset_and_hazards.md R290), the transmit trace the results imply
(spec/41_command_sequencer.md R157), and the answers a working encoder gives (spec/20_memory.md R72 to R76). -/

namespace Sys2Proof.Machine

/-! ### Runs -/

/-- `k` steps from `s` lead to `t`. -/
def RunsTo (k : Nat) (s t : State) : Prop := Host.Core.run Sys2Proof.core k s = .next t

/-- An idle, configured block: the next command it accepts opens a session (R142). -/
structure ReadyForCommand (s : State) : Prop where
  no_session : s.session = none
  configured : s.configured = true

/-! ### The invariant (R39) -/

/-- The exchanges a session has made when it stands in phase `p` with `a` attempts in its loop (R28, R29). -/
def exchangesMade : Phase → Nat → Nat
  | .cbSync, a => a
  | .rpCmd, _ => 0
  | .rpEcho, a => a + 1
  | .rpShift, a => a + 1
  | .rpMsb, a => a + 2
  | .rpLsb, a => a + 3
  | .szCmd, _ => 0
  | .szAck, a => a + 1

/-- What holds of a session under the budget `m` (R26 to R32, R39). -/
structure SessionOk (m : Nat) (ss : Session) : Prop where
  /-- The phase belongs to the command (R39 e). -/
  phase_of_cmd : phaseCmd ss.phase = ss.cmd
  /-- The budget is never exceeded (R29, R39 d). -/
  attempts_le : ss.attempts ≤ m
  /-- The count of exchanges agrees with the phase and the attempts (R28, R29). -/
  xfers_eq : ss.xfers = exchangesMade ss.phase ss.attempts
  /-- Past the echo at least one attempt was made (R193, R202). -/
  echo_seen : ss.phase = .rpShift ∨ ss.phase = .rpMsb ∨ ss.phase = .rpLsb → 1 ≤ ss.attempts
  /-- The nibble holds a value exactly in RP_LSB (R31). -/
  nibble_iff : ss.msbNibble.isSome = true ↔ ss.phase = .rpLsb
  /-- The low byte never outlives the step that writes it (R32). -/
  no_lsb : ss.lsbByte = none

/-- The invariant of every reachable state (R39), with the parameter's bound (R6). -/
structure Inv (s : State) : Prop where
  /-- MAX_ATTEMPTS is at least 1 (R6). -/
  budget_pos : 1 ≤ s.maxAttempts
  /-- cfg holds a value exactly when configured is 1 (R21, R41). -/
  cfg_iff : s.cfg.isSome = s.configured
  /-- A session is present only in a configured block (R39 a). -/
  session_configured : s.session.isSome = true → s.configured = true
  /-- link is SYNCING exactly while a clear_buffer is in flight (R39 b). -/
  syncing_iff : s.link = .syncing ↔ ∃ ss, s.session = some ss ∧ ss.cmd = .cb
  /-- The SyncCounter is 0, 1 or 2 (R39 c). -/
  sync_le_two : s.syncCount ≤ 2
  /-- In a clear_buffer that goes on, it is at most 1 and at most the exchanges made (R39 c, R173). -/
  sync_in_flight : ∀ ss, s.session = some ss → ss.cmd = .cb → s.syncCount ≤ 1 ∧ s.syncCount ≤ ss.attempts
  /-- A READY link was counted to two in a configured block (R24, R175). -/
  ready_counted : s.link = .ready → s.syncCount = 2 ∧ s.configured = true
  /-- The session is well kept. -/
  session_ok : ∀ ss, s.session = some ss → SessionOk s.maxAttempts ss

/-! ### Legal results (R242, R290) -/

/-- The counts a BusFault in phase `p` can report under the budget `m` (R238, R290). -/
def busFaultCount (m : Nat) : Phase → Nat → Prop
  | .cbSync, n => n + 1 ≤ m
  | .rpCmd, n => n = 0
  | .rpEcho, n => 1 ≤ n ∧ n ≤ m
  | .rpShift, n => 2 ≤ n ∧ n ≤ m + 1
  | .rpMsb, n => 3 ≤ n ∧ n ≤ m + 2
  | .rpLsb, n => 4 ≤ n ∧ n ≤ m + 3
  | .szCmd, n => n = 0
  | .szAck, n => 1 ≤ n ∧ n ≤ m

/-- The results a command or a configure can end with under the budget `m` (R242, R290). -/
def LegalResult (m : Nat) : Result → Prop
  | .ok none n payload => n = 0 ∧ payload = .completed
  | .ok (some p) n payload =>
    (p = .cbSync ∧ 2 ≤ n ∧ n ≤ m ∧ payload = .completed) ∨
      (p = .rpLsb ∧ 5 ≤ n ∧ n ≤ m + 4 ∧ ∃ x, payload = .position x) ∨
        (p = .szAck ∧ 2 ≤ n ∧ n ≤ m + 1 ∧ payload = .powerCycleRequired true)
  | .fault .busFault p n => ∃ q, p = some q ∧ busFaultCount m q n
  | .fault .syncTimeout p n =>
    (p = some .cbSync ∧ n = m) ∨ (p = some .rpEcho ∧ n = m + 1) ∨ (p = some .szAck ∧ n = m + 1)
  | .fault .invalidCommand p n => p = none ∧ n = 0
  | .fault .notConfigured p n => p = none ∧ n = 0

/-- Every result delivered so far is legal. -/
def ResultsLegal (s : State) : Prop := ∀ r ∈ s.results, LegalResult s.maxAttempts r

/-! ### The transmit trace (R67, R157) -/

/-- The first `n` bytes a command transmits: its opcode, if it has one, then no-ops (R157). -/
def commandTrace : Cmd → Nat → List Byte
  | .cb, n => List.replicate n opcodeNoOp
  | .rp, 0 => []
  | .rp, n + 1 => opcodeReadPosition :: List.replicate n opcodeNoOp
  | .sz, 0 => []
  | .sz, n + 1 => opcodeSetZero :: List.replicate n opcodeNoOp

/-- The exchanges a result was preceded by: those that returned a byte, and the one that failed (R290). -/
def exchangesAttempted : Result → Nat
  | .ok _ n _ => n
  | .fault .busFault _ n => n + 1
  | .fault .syncTimeout _ n => n
  | .fault .invalidCommand _ n => n
  | .fault .notConfigured _ n => n

/-- The bytes transmitted by the call that ended with a result (R157). -/
def resultTrace (r : Result) : List Byte :=
  match r.phase with
  | none => []
  | some p => commandTrace (phaseCmd p) (exchangesAttempted r)

/-- The bytes transmitted so far by the command in flight. -/
def inFlightTrace : Option Session → List Byte
  | none => []
  | some ss => commandTrace (phaseCmd ss.phase) ss.xfers

/-- The transmit trace is the concatenation of the traces of the calls that have ended, in order, and of the one in
flight (R67, R157). -/
def TraceAccounted (s : State) : Prop :=
  s.txTrace = s.results.flatMap resultTrace ++ inFlightTrace s.session

/-! ### Answers -/

/-- A script of bytes. -/
def byteScript (bs : List Byte) : List Answer := bs.map .byte

/-- No two answers running are 0xA5 (R175). -/
def NoDoubleAck : List Byte → Prop
  | [] => True
  | [_] => True
  | a :: b :: rest => ¬(a = valueAckIdle ∧ b = valueAckIdle) ∧ NoDoubleAck (b :: rest)

/-- What a working encoder answers to a read_pos (R73 to R75): an answer to the opcode, some answers that are not the
echo, the echo, one byte to be discarded, and the two data bytes. -/
def readAnswers (first : Byte) (waits : List Byte) (shifted b4 b5 : Byte) : List Byte :=
  first :: waits ++ [valueEchoRead, shifted, b4, b5]

/-- What a working encoder answers to a set_zero (R76): an answer to the opcode, some answers that are not the
acknowledgement, and the acknowledgement. -/
def zeroAnswers (first : Byte) (waits : List Byte) : List Byte :=
  first :: waits ++ [valueAckZero]

/-! ### Comparing runs -/

/-- The state with another link status. -/
def State.setLink (s : State) (l : Link) : State := { s with link := l }

/-- The state with another configuration snapshot. -/
def State.setCfg (s : State) (c : Option BusConfiguration) : State := { s with cfg := c }

/-- Two outcomes are the same but for the link status. -/
def SameButLink (o o' : StepResult) : Prop :=
  (∃ t l, o = .next t ∧ o' = .next (t.setLink l)) ∨ (∃ r, o = .refused r ∧ o' = .refused r)

/-- Two outcomes are the same but for the configuration snapshot. -/
def SameButCfg (o o' : StepResult) : Prop :=
  (∃ t c, o = .next t ∧ o' = .next (t.setCfg c)) ∨ (∃ r, o = .refused r ∧ o' = .refused r)

/-- The phases the step of a phase can leave its session in, where it does not end the command (R147). -/
def nextPhases : Phase → List Phase
  | .cbSync => [.cbSync]
  | .rpCmd => [.rpEcho]
  | .rpEcho => [.rpEcho, .rpShift]
  | .rpShift => [.rpMsb]
  | .rpMsb => [.rpLsb]
  | .rpLsb => []
  | .szCmd => [.szAck]
  | .szAck => [.szAck]

/-- A host instruction: a call, not an exchange (R11). -/
def isHostInstr : Instr → Bool
  | .txNoOp => false
  | .txReadPosition => false
  | .txSetZero => false
  | .rxAckIdle _ => false
  | .rxEchoRead _ => false
  | .rxAckZero _ => false
  | .rxUninspected _ => false
  | .rxDataMsb _ _ => false
  | .rxDataLsb _ => false
  | .hostClearBuffer => true
  | .hostReadPos => true
  | .hostSetZero => true
  | .hostUnrecognised _ => true
  | .hostConfigure _ => true

/-- The phases whose exchange a wire instruction is (R91, R94); none for a host instruction. -/
def phasesOf : Instr → List Phase
  | .txNoOp => [.cbSync, .rpEcho, .rpShift, .rpMsb, .rpLsb, .szAck]
  | .txReadPosition => [.rpCmd]
  | .txSetZero => [.szCmd]
  | .rxAckIdle _ => [.cbSync]
  | .rxEchoRead _ => [.rpEcho]
  | .rxAckZero _ => [.szAck]
  | .rxUninspected _ => [.rpCmd, .rpShift, .szCmd]
  | .rxDataMsb _ _ => [.rpMsb]
  | .rxDataLsb _ => [.rpLsb]
  | .hostClearBuffer => []
  | .hostReadPos => []
  | .hostSetZero => []
  | .hostUnrecognised _ => []
  | .hostConfigure _ => []

end Sys2Proof.Machine
end

