-- ==== Sys2Proof/Certificates/Slice0/Obligations.lean ====
section
/-! DEFINITION. The statements for the provers, one definition each. Where a clause rests on a choice the spec marks as
its own (a decision D<n> of spec/92_eei_decisions.md) or on one the model made (a log entry), the docstring says so.
`exec` answers with the whole next state wherever one is written out, so that what is not named there is unchanged. -/

open Sys2Proof Sys2Proof.Machine

/-! ## Encodings -/

/-- Decoding any encoding of a well-formed instruction gives the instruction back, every operand at every value
(R91, R94 to R98, R104 to R108). -/
def Obligations.DecodeOfEncodingIsTheInstruction : Prop :=
  ∀ (i : Instr), i.wellFormed = true → encode i ∈ encodings i ∧ ∀ f ∈ encodings i, decode f = .ok i

/-- A frame that decodes is an encoding of the well-formed instruction it decodes to: no frame outside an instruction's
encodings is read as it. -/
def Obligations.DecodedFrameIsAnEncoding : Prop :=
  ∀ (f : Frame) (i : Instr), decode f = .ok i → i.wellFormed = true ∧ f ∈ encodings i

/-- A frame is rejected exactly when it is a transmitted byte that is no opcode, or a configuration with a defect. The
second clause is the spec's decisions D13 and D14. -/
def Obligations.DecodeRejectsExactlyTheReservedFrames : Prop :=
  ∀ (f : Frame), (∃ e, decode f = .error e) ↔
    (∃ b : Byte, f = .wireTx b ∧ b ≠ 0x00 ∧ b ≠ 0x10 ∧ b ≠ 0x70) ∨
      (∃ c : BusConfiguration, f = .cfg c ∧ c.defect ≠ none)

/-- Words written out from R91, R94 to R96 and R111 decode as the spec reads them. -/
def Obligations.WordsOfTheSpecDecodeAsItReadsThem : Prop :=
  decode (.wireTx 0b00000000#8) = .ok .txNoOp ∧
    decode (.wireTx 0b00010000#8) = .ok .txReadPosition ∧
    decode (.wireTx 0b01110000#8) = .ok .txSetZero ∧
    decode (.wireRx .cbSync 0b10100101#8) = .ok (.rxAckIdle 0xA5) ∧
    decode (.wireRx .rpEcho 0b00010000#8) = .ok (.rxEchoRead 0x10) ∧
    decode (.wireRx .szAck 0b10000000#8) = .ok (.rxAckZero 0x80) ∧
    decode (.wireRx .rpMsb 0b11111011#8) = .ok (.rxDataMsb 0xF 0xB) ∧
    decode (.wireRx .rpLsb 0b01001111#8) = .ok (.rxDataLsb 0x4F) ∧
    decode (.hostCmd "read_pos") = .ok .hostReadPos ∧
    decode (.hostCmd "readPosition") = .ok (.hostUnrecognised "readPosition")

/-- An identifier is recognised by exact equality of the whole string with one of the three; anything else, the near
misses among it, is of the unrecognised class and yields InvalidCommand (R98). That it does so before configure too is
the spec's decision D6 (conflict C2, log entry 16). -/
def Obligations.IdentifiersAreRecognisedExactly : Prop :=
  ∀ (id : String),
    (decode (.hostCmd id) = .ok .hostClearBuffer ↔ id = "clear_buffer") ∧
    (decode (.hostCmd id) = .ok .hostReadPos ↔ id = "read_pos") ∧
    (decode (.hostCmd id) = .ok .hostSetZero ↔ id = "set_zero") ∧
    (id ≠ "clear_buffer" → id ≠ "read_pos" → id ≠ "set_zero" →
      decode (.hostCmd id) = .ok (.hostUnrecognised id) ∧
      ∀ s : State, s.session = none → ∃ t, exec (.hostUnrecognised id) s = .next t ∧
        t.results = s.results ++ [.fault .invalidCommand none 0])

/-- The encoded divisor 0 means 65536, every other encoding itself, so that a divisor lies in 1 to 65536 (R106). -/
def Obligations.DivisorEncodingZeroMeans65536 : Prop :=
  ∀ (d : BitVec 16), (d = 0 → divisorOf d = 65536) ∧ (d ≠ 0 → divisorOf d = d.toNat) ∧
    1 ≤ divisorOf d ∧ divisorOf d ≤ 65536

/-- The valid configurations are those with four distinct lines and options at most 3, in every clock mode and with
every divisor. That the other options are outside the rules is the spec's decision D14. -/
def Obligations.ValidConfigurationsAreThoseOfTheRules : Prop :=
  ∀ (c : BusConfiguration), c.defect = none ↔
    ([c.csLine, c.clkLine, c.misoLine, c.mosiLine].Nodup ∧ c.options.toNat < 4)

/-! ## The position decoder -/

/-- The position of the two raw bytes is ((b4 & 0x0F) << 8) | b5, which is 256 * (b4 mod 16) + b5 (R97, R198). -/
def Obligations.PositionIsNibbleThenByte : Prop :=
  ∀ (b4 b5 : Byte),
    decodePosition b4 b5 = (((b4 &&& 0x0F).setWidth 12 <<< 8) ||| b5.setWidth 12 : BitVec 12) ∧
    decodePosition b4 b5 = b4.extractLsb' 0 4 ++ b5 ∧
    (decodePosition b4 b5).toNat = 256 * (b4.toNat % 16) + b5.toNat ∧
    (decodePosition b4 b5).toNat ≤ 4095

/-- The arithmetic laws of the decoder (R199): the shift loses no bit, the OR is the sum, the result lies in 0 to 4095,
its extremes are reached, the decoder is onto, and two pairs of bytes give one position exactly when they differ at
most in the high nibble of the first byte. -/
def Obligations.PositionDecoderIsOntoAndSixteenToOne : Prop :=
  (∀ p : Position, ∃ b4 b5 : Byte, decodePosition b4 b5 = p) ∧
    (∀ b4 b5 c4 c5 : Byte, decodePosition b4 b5 = decodePosition c4 c5 ↔
      b4.toNat % 16 = c4.toNat % 16 ∧ b5 = c5) ∧
    (∀ (m : Nibble) (l : Byte), (assemblePosition m l).toNat = (m.toNat <<< 8) ||| l.toNat ∧
      (m.toNat <<< 8) ||| l.toNat = 256 * m.toNat + l.toNat ∧ (assemblePosition m l).toNat ≤ 4095) ∧
    decodePosition 0x00 0x00 = 0 ∧ (decodePosition 0x0F 0xFF).toNat = 4095

/-! ## The host's calls -/

/-- An identifier outside the three ends with InvalidCommand, phase NONE, no exchange, configured or not; nothing but
the host's list of calls and the list of results changes (R144). That it is so before configure too, the identifier
being tested first, is the spec's decision D6 (conflict C2, log entry 16). -/
def Obligations.UnrecognisedIdentifierIsInvalidCommand : Prop :=
  ∀ (s : State) (id : String), s.session = none →
    id ≠ "clear_buffer" → id ≠ "read_pos" → id ≠ "set_zero" →
    exec (.hostUnrecognised id) s = .next { s with
      program := s.program.tail, results := s.results ++ [.fault .invalidCommand none 0] }

/-- A recognised command before any configure ends with NotConfigured, phase NONE, no exchange and no other change;
once configured is set no step clears it and no step delivers NotConfigured (R241). -/
def Obligations.CommandBeforeConfigureIsNotConfigured : Prop :=
  (∀ s : State, s.session = none → s.configured = false →
    ∀ i ∈ [Instr.hostClearBuffer, .hostReadPos, .hostSetZero],
      exec i s = .next { s with
        program := s.program.tail, results := s.results ++ [.fault .notConfigured none 0] }) ∧
  (∀ s t : State, s.configured = true → step s = .next t →
    t.configured = true ∧ ∀ p n, t.results ≠ s.results ++ [.fault .notConfigured p n])

/-- In a configured block with no session a recognised command opens its session; clear_buffer also clears the counter
and sets link to SYNCING. These two, and that the others leave link alone, are the spec's decisions D4 and D5. -/
def Obligations.AcceptedCommandOpensItsSession : Prop :=
  ∀ s : State, ReadyForCommand s →
    exec .hostClearBuffer s = .next { s with
      program := s.program.tail, syncCount := 0, link := .syncing,
      session := some ⟨.cb, .cbSync, 0, 0, none, none⟩ } ∧
    exec .hostReadPos s = .next { s with
      program := s.program.tail, session := some ⟨.rp, .rpCmd, 0, 0, none, none⟩ } ∧
    exec .hostSetZero s = .next { s with
      program := s.program.tail, session := some ⟨.sz, .szCmd, 0, 0, none, none⟩ }

/-- configure with a valid record passes it to the transport once, replaces cfg whole, sets configured and ends with OK,
phase NONE, without an exchange; sync_count is untouched. That link drops to IDLE and that configure always succeeds
are the spec's decisions D5, D12 and D21. -/
def Obligations.ConfigureAppliesTheRecord : Prop :=
  ∀ (s : State) (c : BusConfiguration), s.session = none → c.defect = none →
    exec (.hostConfigure c) s = .next { s with
      program := s.program.tail, cfg := some c, configured := true, link := .idle,
      busConfigures := s.busConfigures ++ [c],
      results := s.results ++ [.ok none 0 .completed] }

/-- configure with a record that breaks a precondition has no step: it is refused with the defect (the spec's decisions
D13 and D14). -/
def Obligations.InvalidConfigurationIsRefused : Prop :=
  ∀ (s : State) (c : BusConfiguration) (d : ConfigDefect), s.session = none → c.defect = some d →
    exec (.hostConfigure c) s = .refused (.invalidConfiguration d)

/-- A host call while a session is present has no step, whatever the call (the spec's decision D9). -/
def Obligations.HostCallWhileBusyIsRefused : Prop :=
  ∀ (s : State) (i : Instr), s.session ≠ none → isHostInstr i = true →
    exec i s = .refused .hostCallWhileBusy

/-! ## The phase steps, each as the row of its transmitted byte and as the row of its received byte -/

/-- CB_SYNC counts: a received 0xA5 adds one to sync_count, which was then 0 or 1; any other byte sets it to 0, whatever
it was, and the command goes on (R173, R174). -/
def Obligations.CbSyncCountsAcknowledgements : Prop :=
  ∀ (s : State) (ss : Session) (b : Byte), s.session = some ss → ss.phase = .cbSync →
    ss.attempts ≠ s.maxAttempts →
    ∃ t, exec (.rxAckIdle b) s = .next t ∧ (s.nextAnswer = .byte b → exec .txNoOp s = .next t) ∧
      (b = 0xA5 → t.syncCount = s.syncCount + 1) ∧
      (b = 0xA5 → Inv s → (s.syncCount = 0 ∧ t.syncCount = 1) ∨ (s.syncCount = 1 ∧ t.syncCount = 2)) ∧
      (b ≠ 0xA5 → t.syncCount = 0 ∧ t.results = s.results ∧
        t.session = some { ss with xfers := ss.xfers + 1, attempts := ss.attempts + 1 })

/-- The whole next state of a step of CB_SYNC that receives a byte: the command ends, with link READY, when the count
reaches two, and goes on otherwise. That success sets link to READY is the spec's decision D5. -/
def Obligations.CbSyncStepWrittenOut : Prop :=
  ∀ (s : State) (ss : Session) (b : Byte), s.session = some ss → ss.phase = .cbSync →
    ss.attempts ≠ s.maxAttempts →
    let t : State :=
      if b = 0xA5 ∧ s.syncCount = 1 then
        { s.afterXfer 0x00 with
          syncCount := 2, link := .ready, session := none,
          results := s.results ++ [.ok (some .cbSync) (ss.xfers + 1) .completed] }
      else
        { s.afterXfer 0x00 with
          syncCount := if b = 0xA5 then s.syncCount + 1 else 0,
          session := some { ss with xfers := ss.xfers + 1, attempts := ss.attempts + 1 } }
    exec (.rxAckIdle b) s = .next t ∧ (s.nextAnswer = .byte b → exec .txNoOp s = .next t)

/-- RP_CMD transmits 0x10; the byte received has no effect, and RP_ECHO begins with no attempt made, whatever the
attempts were (R192). -/
def Obligations.RpCmdSendsReadPosition : Prop :=
  ∀ (s : State) (ss : Session) (b : Byte), s.session = some ss → ss.phase = .rpCmd →
    let t : State := { s.afterXfer 0x10 with
      session := some { ss with phase := .rpEcho, xfers := ss.xfers + 1, attempts := 0 } }
    exec (.rxUninspected b) s = .next t ∧ (s.nextAnswer = .byte b → exec .txReadPosition s = .next t)

/-- RP_ECHO transmits 0x00 and goes on to RP_SHIFT exactly on 0x10; any other byte only consumes an attempt (R193). -/
def Obligations.RpEchoAwaitsTheEcho : Prop :=
  ∀ (s : State) (ss : Session) (b : Byte), s.session = some ss → ss.phase = .rpEcho →
    ss.attempts ≠ s.maxAttempts →
    let t : State := { s.afterXfer 0x00 with
      session := some { ss with
        phase := if b = 0x10 then .rpShift else .rpEcho,
        xfers := ss.xfers + 1, attempts := ss.attempts + 1 } }
    exec (.rxEchoRead b) s = .next t ∧ (s.nextAnswer = .byte b → exec .txNoOp s = .next t)

/-- RP_SHIFT transmits 0x00, discards the byte and goes on to RP_MSB (R195). -/
def Obligations.RpShiftDiscardsOneByte : Prop :=
  ∀ (s : State) (ss : Session) (b : Byte), s.session = some ss → ss.phase = .rpShift →
    let t : State := { s.afterXfer 0x00 with
      session := some { ss with phase := .rpMsb, xfers := ss.xfers + 1 } }
    exec (.rxUninspected b) s = .next t ∧ (s.nextAnswer = .byte b → exec .txNoOp s = .next t)

/-- RP_MSB transmits 0x00 and latches bits 3 to 0 of the byte; bits 7 to 4 are dropped (R196). -/
def Obligations.RpMsbLatchesTheLowNibble : Prop :=
  ∀ (s : State) (ss : Session), s.session = some ss → ss.phase = .rpMsb →
    let t (m : Nibble) : State := { s.afterXfer 0x00 with
      session := some { ss with phase := .rpLsb, xfers := ss.xfers + 1, msbNibble := some m } }
    (∀ x h : Nibble, exec (.rxDataMsb x h) s = .next (t h)) ∧
      (∀ b : Byte, s.nextAnswer = .byte b → exec .txNoOp s = .next (t (b.extractLsb' 0 4)))

/-- RP_LSB transmits 0x00 and ends the command with the position of the latched nibble m and the whole byte l, which is
(m << 8) | l = 256 * m + l; the low byte is not kept (R197, R198). -/
def Obligations.RpLsbDeliversThePosition : Prop :=
  ∀ (s : State) (ss : Session) (m : Nibble) (l : Byte), s.session = some ss → ss.phase = .rpLsb →
    ss.msbNibble = some m →
    let p : Position := (m.setWidth 12 <<< 8) ||| l.setWidth 12
    let t : State := { s.afterXfer 0x00 with
      session := none,
      results := s.results ++ [.ok (some .rpLsb) (ss.xfers + 1) (.position p)] }
    p.toNat = 256 * m.toNat + l.toNat ∧ p = m ++ l ∧
      (∀ b4 : Byte, m = b4.extractLsb' 0 4 → p = decodePosition b4 l) ∧
      exec (.rxDataLsb l) s = .next t ∧ (s.nextAnswer = .byte l → exec .txNoOp s = .next t)

/-- RP_LSB without a latched nibble, which no reachable state shows, has no step where a byte is received: no position is
made of a nibble that was never written. That the model refuses it is the treatment the spec names for U6 (R41; log
entry 7). -/
def Obligations.RpLsbWithoutANibbleIsRefused : Prop :=
  ∀ (s : State) (ss : Session) (l : Byte), s.session = some ss → ss.phase = .rpLsb → ss.msbNibble = none →
    exec (.rxDataLsb l) s = .refused .unwrittenLatch ∧
      (s.nextAnswer = .byte l → exec .txNoOp s = .refused .unwrittenLatch ∧ step s = .refused .unwrittenLatch)

/-- SZ_CMD transmits 0x70; the byte received has no effect, 0x80 included, and SZ_ACK begins with no attempt made. That
the byte is not inspected is the spec's decision D11. -/
def Obligations.SzCmdSendsSetZero : Prop :=
  ∀ (s : State) (ss : Session) (b : Byte), s.session = some ss → ss.phase = .szCmd →
    let t : State := { s.afterXfer 0x70 with
      session := some { ss with phase := .szAck, xfers := ss.xfers + 1, attempts := 0 } }
    exec (.rxUninspected b) s = .next t ∧ (s.nextAnswer = .byte b → exec .txSetZero s = .next t)

/-- SZ_ACK transmits 0x00 and ends the command with power_cycle_required = 1 exactly on 0x80; any other byte only
consumes an attempt. The form of the notice and of the bound are the spec's decisions D3 and D22. -/
def Obligations.SzAckAwaitsTheAcknowledgement : Prop :=
  ∀ (s : State) (ss : Session) (b : Byte), s.session = some ss → ss.phase = .szAck →
    ss.attempts ≠ s.maxAttempts →
    let t : State :=
      if b = 0x80 then
        { s.afterXfer 0x00 with
          session := none,
          results := s.results ++ [.ok (some .szAck) (ss.xfers + 1) (.powerCycleRequired true)] }
      else
        { s.afterXfer 0x00 with
          session := some { ss with xfers := ss.xfers + 1, attempts := ss.attempts + 1 } }
    exec (.rxAckZero b) s = .next t ∧ (s.nextAnswer = .byte b → exec .txNoOp s = .next t)

/-- A wire instruction has no step where no session is present, nor in a phase that neither transmits nor receives its
frame (R125, R147). The spec has no such exchange; the refusals are the model's choice (log entry 29). -/
def Obligations.WireInstructionOutsideItsPhaseIsRefused : Prop :=
  ∀ (s : State) (i : Instr), isHostInstr i = false →
    (s.session = none → exec i s = .refused .exchangeOutsideSession) ∧
      (∀ ss, s.session = some ss → ss.phase ∉ phasesOf i → exec i s = .refused (.frameNotOfPhase ss.phase))

/-- The byte of a phase whose received byte is ignored has no effect: two bytes give one outcome, and so do two data
bytes that differ in the high nibble (R192, R195, R196; for SZ_CMD the spec's decision D11). -/
def Obligations.IgnoredBitsHaveNoEffect : Prop :=
  ∀ (s : State), (∀ b c : Byte, exec (.rxUninspected b) s = exec (.rxUninspected c) s) ∧
    (∀ x y h : Nibble, exec (.rxDataMsb x h) s = exec (.rxDataMsb y h) s)

/-! ## Faults -/

/-- A BusFault ends the command at once, in every phase: the byte was handed to the transport, nothing is counted or
latched, the result carries the phase and the earlier exchanges, the session is gone. That link drops to IDLE is the
spec's decision D5. -/
def Obligations.BusFaultAbortsTheCommand : Prop :=
  ∀ (s : State) (ss : Session), s.session = some ss → budgetSpent s ss = false → s.nextAnswer = .busFault →
    let t : State := { s.afterXfer (txByte ss.phase) with
      session := none, link := .idle,
      results := s.results ++ [.fault .busFault (some ss.phase) ss.xfers] }
    step s = .next t ∧
      ∀ i ∈ [Instr.txNoOp, .txReadPosition, .txSetZero], ss.phase ∈ phasesOf i → exec i s = .next t

/-- A handshake loop that has used its budget ends with SyncTimeout before another exchange, whatever the transport
would have answered, and so seen from either frame. The policy is the spec's decision D3, that link drops to IDLE its
decision D5. -/
def Obligations.SpentBudgetIsSyncTimeout : Prop :=
  ∀ (s : State) (ss : Session), s.session = some ss → ss.phase ∈ [Phase.cbSync, .rpEcho, .szAck] →
    ss.attempts = s.maxAttempts →
    let t : State := { s with
      session := none, link := .idle,
      results := s.results ++ [.fault .syncTimeout (some ss.phase) ss.xfers] }
    exec .txNoOp s = .next t ∧ (∀ b, exec (decodeRx ss.phase b) s = .next t) ∧ step s = .next t

/-! ## The step -/

/-- A step runs the decoded instruction: where the fetched frame decodes to i, the step is exec of i; and where the
frame received in the same exchange decodes to i, the step is exec of i too (log entry 4). -/
def Obligations.StepRunsTheDecodedInstruction : Prop :=
  ∀ (s : State) (f : Frame) (i : Instr), decode f = .ok i →
    (fetch s = some f → step s = exec i s) ∧ (fetchRx s = some f → step s = exec i s)

/-- With no session and no call presented the block waits: the step changes nothing (R271). That
waiting is a step at all is the model's choice (log entry 28). -/
def Obligations.IdleBlockWaits : Prop :=
  ∀ (s : State), s.session = none → s.program = [] → step s = .next s

/-- The machine refuses a step in two cases alone: a configure that breaks a precondition, and RP_LSB answered a byte
without a latched nibble, which the invariant rules out; so under it a command in flight always steps, whatever the
transport answers (R71, R252). The refusals are the spec's decisions D13 and D14 and the treatment it names for U6 (log
entries 7, 11). -/
def Obligations.StepRefusesOnlyInvalidConfigurations : Prop :=
  (∀ (s : State) (r : Refusal), step s = .refused r ↔
    (∃ c cs d, s.session = none ∧ s.program = .configure c :: cs ∧ c.defect = some d ∧
      r = .invalidConfiguration d) ∨
    (∃ ss b, s.session = some ss ∧ ss.phase = .rpLsb ∧ ss.msbNibble = none ∧ s.nextAnswer = .byte b ∧
      r = .unwrittenLatch)) ∧
  (∀ (s : State) (r : Refusal), Inv s → (step s = .refused r ↔
    ∃ c cs d, s.session = none ∧ s.program = .configure c :: cs ∧ c.defect = some d ∧
      r = .invalidConfiguration d))

/-- A step makes one exchange if it is a phase step whose loop has budget left, of the one byte the phase transmits, and
none otherwise; an answer is consumed exactly with a byte transmitted; and no session is left after a BusFault
(R125). The budget is the spec's decision D3. -/
def Obligations.ExchangesAreSingleBytesOfPhaseSteps : Prop :=
  ∀ (s t : State), step s = .next t →
    (s.session = none → t.txTrace = s.txTrace ∧ t.answers = s.answers ∧ t.draws = s.draws) ∧
    (∀ ss, s.session = some ss → budgetSpent s ss = true →
      t.txTrace = s.txTrace ∧ t.answers = s.answers ∧ t.draws = s.draws) ∧
    (∀ ss, s.session = some ss → budgetSpent s ss = false →
      t.txTrace = s.txTrace ++ [txByte ss.phase] ∧ t.answers = s.answers.tail ∧ t.draws = s.draws + 1) ∧
    (∀ p n, t.results = s.results ++ [.fault .busFault p n] → t.session = none)

/-- cfg is written only by configure, as a whole: a step that changes it applied a record that is its new value
(R23). That a later configure is accepted and replaces the snapshot is the spec's resolution C1 and decision D12 (log
entry 20). -/
def Obligations.CfgIsWrittenOnlyByConfigure : Prop :=
  (∀ s t : State, step s = .next t → t.cfg ≠ s.cfg → ∃ c, fetch s = some (.cfg c) ∧ t.cfg = some c) ∧
    (∀ (s t : State) (c : BusConfiguration), exec (.hostConfigure c) s = .next t → t.cfg = some c)

/-- The parameter MAX_ATTEMPTS is never written (R276), a result once delivered stays (R33, R251), and a step delivers
at most one: exactly one when it ends a command, none while the command goes on. That the result comes in the step
that ends the command is the model's grain of a step (log entry 13). -/
def Obligations.ResultsAreDeliveredOncePerCommand : Prop :=
  ∀ (s t : State), step s = .next t →
    t.maxAttempts = s.maxAttempts ∧
    (∀ ss, s.session = some ss →
      (t.session = none ∧ ∃ r, t.results = s.results ++ [r]) ∨ (t.session ≠ none ∧ t.results = s.results)) ∧
    (s.session = none →
      (t.session = none ∧ s.program ≠ [] ∧ ∃ r, t.results = s.results ++ [r]) ∨
        (t.session ≠ none ∧ t.results = s.results) ∨ t = s)

/-- A command goes through its phases in the order of R147: a step that does not end the command leaves the phase among
the successors of the one it was in, with the same command. -/
def Obligations.PhasesFollowTheTransferTable : Prop :=
  ∀ (s t : State) (ss tt : Session), s.session = some ss → step s = .next t → t.session = some tt →
    tt.cmd = ss.cmd ∧ tt.phase ∈ nextPhases ss.phase ∧ tt.xfers = ss.xfers + 1

/-- link becomes READY only by a clear_buffer that receives 0xA5 with sync_count 1. The transitions of link are the
spec's decision D5. -/
def Obligations.ReadyOnlyAfterTwoAcknowledgements : Prop :=
  ∀ (s t : State), step s = .next t → s.link ≠ .ready → t.link = .ready →
    ∃ ss, s.session = some ss ∧ ss.phase = .cbSync ∧ s.syncCount = 1 ∧ s.nextAnswer = .byte 0xA5 ∧
      t.syncCount = 2 ∧ t.session = none

/-- link gates nothing: from states that differ in link alone the step gives outcomes that differ in link alone. That
no rule reads link is the spec's decision D5. -/
def Obligations.LinkGatesNothing : Prop :=
  ∀ (s : State) (l : Link), SameButLink (step s) (step (s.setLink l))

/-- No rule reads cfg: from states that differ in cfg alone the step gives outcomes that differ in cfg alone (R22). -/
def Obligations.CfgIsReadByNoRule : Prop :=
  ∀ (s : State) (c : Option BusConfiguration), SameButCfg (step s) (step (s.setCfg c))

/-! ## Invariants -/

/-- Right after reset the block is not configured, has no session, link IDLE, a cleared counter, no configuration and
nothing put out. The values are the spec's decision D10; the environment's fields are the model's (log entries 2, 3,
6, 8, 9). -/
def Obligations.ResetLeavesTheBlockIdle : Prop :=
  State.reset.configured = false ∧ State.reset.link = .idle ∧ State.reset.session = none ∧
    State.reset.syncCount = 0 ∧ State.reset.cfg = none ∧ State.reset.results = [] ∧
    State.reset.txTrace = [] ∧ State.reset.busConfigures = [] ∧ State.reset.program = [] ∧
    State.reset.answers = [] ∧ 1 ≤ State.reset.maxAttempts

/-- The state after reset meets the invariants. It rests on the reset values of the spec's decision D10, link IDLE above
all, and for the results and the trace on those of the model's own fields (log entry 9). -/
def Obligations.ResetMeetsTheInvariants : Prop :=
  Inv State.reset ∧ ResultsLegal State.reset ∧ TraceAccounted State.reset

/-- Every step keeps the invariant of R39. Its clauses about link, the counter and the budget rest on the spec's
decisions D3 to D5. -/
def Obligations.EveryStepKeepsTheInvariant : Prop :=
  ∀ (s t : State), Inv s → step s = .next t → Inv t

/-- Every step from a state that meets the invariant keeps the results legal: their kinds, phases, counts and payloads
are those of R242 and R290. The counts rest on the spec's decision D3. -/
def Obligations.EveryStepKeepsResultsLegal : Prop :=
  ∀ (s t : State), Inv s → ResultsLegal s → step s = .next t → ResultsLegal t

/-- Every step from a state that meets the invariant keeps the transmit trace the concatenation of the closed forms of
R157 for the calls that have ended and the one in flight (R67). -/
def Obligations.EveryStepKeepsTheTraceAccounted : Prop :=
  ∀ (s t : State), Inv s → TraceAccounted s → step s = .next t → TraceAccounted t

/-! ## Whole commands -/

/-- Every command in flight ends within MAX_ATTEMPTS + 4 steps, with exactly one result, whatever the transport answers
(R154, R292). The bound is the spec's decision D3 (log entry 18), and the count of steps rests on the grain of a step,
D2 and C7 (log entry 13). -/
def Obligations.EveryCommandEnds : Prop :=
  ∀ (s : State) (ss : Session), Inv s → s.session = some ss →
    ∃ k t r, 1 ≤ k ∧ k ≤ s.maxAttempts + 4 ∧ RunsTo k s t ∧ t.session = none ∧ t.results = s.results ++ [r]

/-- clear_buffer succeeds exactly at the first exchange whose answer and whose predecessor's answer are both 0xA5, the
budget allowing it (R170, R175; the bound is the spec's decision D3, the clearing of the counter D4, link D5; log
entries 14, 15, 18). The number of steps rests on the grain of a step, D2 and C7 (log entry 13). -/
def Obligations.ClearBufferSucceedsAtTheFirstDoubleAck : Prop :=
  ∀ (s : State) (before : List Byte) (rest : List Answer), ReadyForCommand s →
    s.answers = byteScript (before ++ [0xA5, 0xA5]) ++ rest →
    NoDoubleAck (before ++ [0xA5]) → before.length + 2 ≤ s.maxAttempts →
    ∃ s₁, exec .hostClearBuffer s = .next s₁ ∧ RunsTo (before.length + 2) s₁ { s with
      program := s.program.tail, link := .ready, syncCount := 2, answers := rest,
      draws := s.draws + (before.length + 2),
      txTrace := s.txTrace ++ List.replicate (before.length + 2) 0x00,
      results := s.results ++ [.ok (some .cbSync) (before.length + 2) .completed] }

/-- clear_buffer that is answered MAX_ATTEMPTS bytes no two of which running are 0xA5 ends with SyncTimeout after
exactly those exchanges (R176; the spec's decisions D3, D4 and D5; log entries 14, 15, 18). That SyncTimeout takes a
step of its own is the grain of a step, D2 and C7 (log entry 13). -/
def Obligations.ClearBufferTimesOutWithoutDoubleAck : Prop :=
  ∀ (s : State) (bs : List Byte) (rest : List Answer), ReadyForCommand s →
    s.answers = byteScript bs ++ rest → NoDoubleAck bs → bs.length = s.maxAttempts →
    ∃ s₁, exec .hostClearBuffer s = .next s₁ ∧ RunsTo (bs.length + 1) s₁ { s with
      program := s.program.tail, link := .idle,
      syncCount := if bs.getLast? = some 0xA5 then 1 else 0,
      answers := rest, draws := s.draws + bs.length,
      txTrace := s.txTrace ++ List.replicate bs.length 0x00,
      results := s.results ++ [.fault .syncTimeout (some .cbSync) s.maxAttempts] }

/-- read_pos, answered as a working encoder answers (R73 to R75) with the echo within the budget, delivers the position
of the two data bytes, whatever the other bytes are and whatever link is (R190, R202; the bound is the spec's decision
D3, that link is not tested D5; log entries 14, 18). The number of steps rests on the grain of a step, D2 and C7 (log
entry 13). -/
def Obligations.ReadPosDeliversTheEncodersPosition : Prop :=
  ∀ (s : State) (first shifted b4 b5 : Byte) (waits : List Byte) (rest : List Answer), ReadyForCommand s →
    s.answers = byteScript (readAnswers first waits shifted b4 b5) ++ rest →
    (∀ b ∈ waits, b ≠ 0x10) → waits.length < s.maxAttempts →
    ∃ s₁, exec .hostReadPos s = .next s₁ ∧ RunsTo (waits.length + 5) s₁ { s with
      program := s.program.tail, answers := rest, draws := s.draws + (waits.length + 5),
      txTrace := s.txTrace ++ 0x10 :: List.replicate (waits.length + 4) 0x00,
      results := s.results ++ [.ok (some .rpLsb) (waits.length + 5)
        (.position (BitVec.ofNat 12 (256 * (b4.toNat % 16) + b5.toNat)))] }

/-- read_pos that sees no echo in MAX_ATTEMPTS no-ops ends with SyncTimeout in RP_ECHO after MAX_ATTEMPTS + 1
exchanges, the answer to the opcode not counting as an echo (R194; the spec's decisions D3 and D5; log entries 14,
18). That SyncTimeout takes a step of its own is the grain of a step, D2 and C7 (log entry 13). -/
def Obligations.ReadPosTimesOutWithoutEcho : Prop :=
  ∀ (s : State) (first : Byte) (waits : List Byte) (rest : List Answer), ReadyForCommand s →
    s.answers = byteScript (first :: waits) ++ rest →
    (∀ b ∈ waits, b ≠ 0x10) → waits.length = s.maxAttempts →
    ∃ s₁, exec .hostReadPos s = .next s₁ ∧ RunsTo (waits.length + 2) s₁ { s with
      program := s.program.tail, link := .idle, answers := rest, draws := s.draws + (waits.length + 1),
      txTrace := s.txTrace ++ 0x10 :: List.replicate waits.length 0x00,
      results := s.results ++ [.fault .syncTimeout (some .rpEcho) (s.maxAttempts + 1)] }

/-- set_zero, acknowledged within the budget (R76), ends with the power-cycle notice and leaves link, the counter and
the configuration alone (R220; the spec's decisions D3, D5, D11 and D22; log entries 14, 18, 19, 21). The number of steps
rests on the grain of a step, D2 and C7 (log entry 13). -/
def Obligations.SetZeroDeliversThePowerCycleNotice : Prop :=
  ∀ (s : State) (first : Byte) (waits : List Byte) (rest : List Answer), ReadyForCommand s →
    s.answers = byteScript (zeroAnswers first waits) ++ rest →
    (∀ b ∈ waits, b ≠ 0x80) → waits.length < s.maxAttempts →
    ∃ s₁, exec .hostSetZero s = .next s₁ ∧ RunsTo (waits.length + 2) s₁ { s with
      program := s.program.tail, answers := rest, draws := s.draws + (waits.length + 2),
      txTrace := s.txTrace ++ 0x70 :: List.replicate (waits.length + 1) 0x00,
      results := s.results ++ [.ok (some .szAck) (waits.length + 2) (.powerCycleRequired true)] }

/-- set_zero that sees no 0x80 in MAX_ATTEMPTS no-ops ends with SyncTimeout in SZ_ACK, a 0x80 in answer to the opcode
not counting (R223; the spec's decisions D3, D5 and D11; log entries 14, 18, 19). That SyncTimeout takes a step of its
own is the grain of a step, D2 and C7 (log entry 13). -/
def Obligations.SetZeroTimesOutWithoutAcknowledgement : Prop :=
  ∀ (s : State) (first : Byte) (waits : List Byte) (rest : List Answer), ReadyForCommand s →
    s.answers = byteScript (first :: waits) ++ rest →
    (∀ b ∈ waits, b ≠ 0x80) → waits.length = s.maxAttempts →
    ∃ s₁, exec .hostSetZero s = .next s₁ ∧ RunsTo (waits.length + 2) s₁ { s with
      program := s.program.tail, link := .idle, answers := rest, draws := s.draws + (waits.length + 1),
      txTrace := s.txTrace ++ 0x70 :: List.replicate waits.length 0x00,
      results := s.results ++ [.fault .syncTimeout (some .szAck) (s.maxAttempts + 1)] }

/-! ## Outputs -/

/-- The codes on the block's outputs are distinct for distinct values, and three fault phases, the link codes and the
kind codes are as tabulated. All of them are the spec's own conventions (decisions D5, D7 and D8). -/
def Obligations.OutputCodesAreThoseOfTheTables : Prop :=
  (∀ l l' : Link, l.code = l'.code ↔ l = l') ∧
    (∀ p q : Option Phase, phaseCode p = phaseCode q ↔ p = q) ∧
    (∀ k k' : FaultKind, k.code = k'.code ↔ k = k') ∧
    (∀ r : Result, r.kind = 0 ↔ ∃ p n x, r = .ok p n x) ∧
    (∀ r : Result, (r.position ≠ none ∨ r.powerCycleRequired ≠ none) → r.kind = 0) ∧
    [Link.idle, .syncing, .ready].map Link.code = [0, 1, 2] ∧
    [FaultKind.busFault, .syncTimeout, .invalidCommand, .notConfigured].map FaultKind.code = [1, 2, 3, 4] ∧
    [none, some Phase.cbSync, some .rpCmd, some .rpEcho, some .rpShift, some .rpMsb, some .rpLsb, some .szCmd,
      some .szAck].map phaseCode = [0, 1, 2, 3, 4, 5, 6, 7, 8]
end

