-- ==== Sys2Proof/Laws/State.lean ====
section
/-! SUPPORT. One lemma for each field of State under each named update, so that later proofs unfold no record
update. -/

namespace Sys2Proof.Machine

/-! ### afterXfer -/

@[simp] theorem State.afterXfer_configured (s : State) (tx : Byte) :
    (s.afterXfer tx).configured = s.configured := rfl

@[simp] theorem State.afterXfer_cfg (s : State) (tx : Byte) :
    (s.afterXfer tx).cfg = s.cfg := rfl

@[simp] theorem State.afterXfer_link (s : State) (tx : Byte) :
    (s.afterXfer tx).link = s.link := rfl

@[simp] theorem State.afterXfer_session (s : State) (tx : Byte) :
    (s.afterXfer tx).session = s.session := rfl

@[simp] theorem State.afterXfer_syncCount (s : State) (tx : Byte) :
    (s.afterXfer tx).syncCount = s.syncCount := rfl

@[simp] theorem State.afterXfer_maxAttempts (s : State) (tx : Byte) :
    (s.afterXfer tx).maxAttempts = s.maxAttempts := rfl

@[simp] theorem State.afterXfer_program (s : State) (tx : Byte) :
    (s.afterXfer tx).program = s.program := rfl

@[simp] theorem State.afterXfer_answers (s : State) (tx : Byte) :
    (s.afterXfer tx).answers = s.answers.tail := rfl

@[simp] theorem State.afterXfer_draws (s : State) (tx : Byte) :
    (s.afterXfer tx).draws = s.draws + 1 := rfl

@[simp] theorem State.afterXfer_txTrace (s : State) (tx : Byte) :
    (s.afterXfer tx).txTrace = s.txTrace ++ [tx] := rfl

@[simp] theorem State.afterXfer_results (s : State) (tx : Byte) :
    (s.afterXfer tx).results = s.results := rfl

@[simp] theorem State.afterXfer_busConfigures (s : State) (tx : Byte) :
    (s.afterXfer tx).busConfigures = s.busConfigures := rfl

/-! ### deliver -/

@[simp] theorem State.deliver_configured (s : State) (r : Result) :
    (s.deliver r).configured = s.configured := rfl

@[simp] theorem State.deliver_cfg (s : State) (r : Result) :
    (s.deliver r).cfg = s.cfg := rfl

@[simp] theorem State.deliver_link (s : State) (r : Result) :
    (s.deliver r).link = s.link := rfl

@[simp] theorem State.deliver_session (s : State) (r : Result) :
    (s.deliver r).session = s.session := rfl

@[simp] theorem State.deliver_syncCount (s : State) (r : Result) :
    (s.deliver r).syncCount = s.syncCount := rfl

@[simp] theorem State.deliver_maxAttempts (s : State) (r : Result) :
    (s.deliver r).maxAttempts = s.maxAttempts := rfl

@[simp] theorem State.deliver_program (s : State) (r : Result) :
    (s.deliver r).program = s.program := rfl

@[simp] theorem State.deliver_answers (s : State) (r : Result) :
    (s.deliver r).answers = s.answers := rfl

@[simp] theorem State.deliver_draws (s : State) (r : Result) :
    (s.deliver r).draws = s.draws := rfl

@[simp] theorem State.deliver_txTrace (s : State) (r : Result) :
    (s.deliver r).txTrace = s.txTrace := rfl

@[simp] theorem State.deliver_results (s : State) (r : Result) :
    (s.deliver r).results = s.results ++ [r] := rfl

@[simp] theorem State.deliver_busConfigures (s : State) (r : Result) :
    (s.deliver r).busConfigures = s.busConfigures := rfl

/-! ### raiseInSession -/

@[simp] theorem State.raiseInSession_configured (s : State) (k : FaultKind) (ss : Session) :
    (s.raiseInSession k ss).configured = s.configured := rfl

@[simp] theorem State.raiseInSession_cfg (s : State) (k : FaultKind) (ss : Session) :
    (s.raiseInSession k ss).cfg = s.cfg := rfl

@[simp] theorem State.raiseInSession_link (s : State) (k : FaultKind) (ss : Session) :
    (s.raiseInSession k ss).link = .idle := rfl

@[simp] theorem State.raiseInSession_session (s : State) (k : FaultKind) (ss : Session) :
    (s.raiseInSession k ss).session = none := rfl

@[simp] theorem State.raiseInSession_syncCount (s : State) (k : FaultKind) (ss : Session) :
    (s.raiseInSession k ss).syncCount = s.syncCount := rfl

@[simp] theorem State.raiseInSession_maxAttempts (s : State) (k : FaultKind) (ss : Session) :
    (s.raiseInSession k ss).maxAttempts = s.maxAttempts := rfl

@[simp] theorem State.raiseInSession_program (s : State) (k : FaultKind) (ss : Session) :
    (s.raiseInSession k ss).program = s.program := rfl

@[simp] theorem State.raiseInSession_answers (s : State) (k : FaultKind) (ss : Session) :
    (s.raiseInSession k ss).answers = s.answers := rfl

@[simp] theorem State.raiseInSession_draws (s : State) (k : FaultKind) (ss : Session) :
    (s.raiseInSession k ss).draws = s.draws := rfl

@[simp] theorem State.raiseInSession_txTrace (s : State) (k : FaultKind) (ss : Session) :
    (s.raiseInSession k ss).txTrace = s.txTrace := rfl

@[simp] theorem State.raiseInSession_results (s : State) (k : FaultKind) (ss : Session) :
    (s.raiseInSession k ss).results = s.results ++ [.fault k (some ss.phase) ss.xfers] := rfl

@[simp] theorem State.raiseInSession_busConfigures (s : State) (k : FaultKind) (ss : Session) :
    (s.raiseInSession k ss).busConfigures = s.busConfigures := rfl

/-! ### raiseAtDispatch -/

@[simp] theorem State.raiseAtDispatch_configured (s : State) (k : FaultKind) :
    (s.raiseAtDispatch k).configured = s.configured := rfl

@[simp] theorem State.raiseAtDispatch_cfg (s : State) (k : FaultKind) :
    (s.raiseAtDispatch k).cfg = s.cfg := rfl

@[simp] theorem State.raiseAtDispatch_link (s : State) (k : FaultKind) :
    (s.raiseAtDispatch k).link = s.link := rfl

@[simp] theorem State.raiseAtDispatch_session (s : State) (k : FaultKind) :
    (s.raiseAtDispatch k).session = s.session := rfl

@[simp] theorem State.raiseAtDispatch_syncCount (s : State) (k : FaultKind) :
    (s.raiseAtDispatch k).syncCount = s.syncCount := rfl

@[simp] theorem State.raiseAtDispatch_maxAttempts (s : State) (k : FaultKind) :
    (s.raiseAtDispatch k).maxAttempts = s.maxAttempts := rfl

@[simp] theorem State.raiseAtDispatch_program (s : State) (k : FaultKind) :
    (s.raiseAtDispatch k).program = s.program := rfl

@[simp] theorem State.raiseAtDispatch_answers (s : State) (k : FaultKind) :
    (s.raiseAtDispatch k).answers = s.answers := rfl

@[simp] theorem State.raiseAtDispatch_draws (s : State) (k : FaultKind) :
    (s.raiseAtDispatch k).draws = s.draws := rfl

@[simp] theorem State.raiseAtDispatch_txTrace (s : State) (k : FaultKind) :
    (s.raiseAtDispatch k).txTrace = s.txTrace := rfl

@[simp] theorem State.raiseAtDispatch_results (s : State) (k : FaultKind) :
    (s.raiseAtDispatch k).results = s.results ++ [.fault k none 0] := rfl

@[simp] theorem State.raiseAtDispatch_busConfigures (s : State) (k : FaultKind) :
    (s.raiseAtDispatch k).busConfigures = s.busConfigures := rfl

/-! ### returnOk -/

@[simp] theorem State.returnOk_configured (s : State) (ss : Session) (payload : Payload) :
    (s.returnOk ss payload).configured = s.configured := rfl

@[simp] theorem State.returnOk_cfg (s : State) (ss : Session) (payload : Payload) :
    (s.returnOk ss payload).cfg = s.cfg := rfl

@[simp] theorem State.returnOk_link (s : State) (ss : Session) (payload : Payload) :
    (s.returnOk ss payload).link = s.link := rfl

@[simp] theorem State.returnOk_session (s : State) (ss : Session) (payload : Payload) :
    (s.returnOk ss payload).session = none := rfl

@[simp] theorem State.returnOk_syncCount (s : State) (ss : Session) (payload : Payload) :
    (s.returnOk ss payload).syncCount = s.syncCount := rfl

@[simp] theorem State.returnOk_maxAttempts (s : State) (ss : Session) (payload : Payload) :
    (s.returnOk ss payload).maxAttempts = s.maxAttempts := rfl

@[simp] theorem State.returnOk_program (s : State) (ss : Session) (payload : Payload) :
    (s.returnOk ss payload).program = s.program := rfl

@[simp] theorem State.returnOk_answers (s : State) (ss : Session) (payload : Payload) :
    (s.returnOk ss payload).answers = s.answers := rfl

@[simp] theorem State.returnOk_draws (s : State) (ss : Session) (payload : Payload) :
    (s.returnOk ss payload).draws = s.draws := rfl

@[simp] theorem State.returnOk_txTrace (s : State) (ss : Session) (payload : Payload) :
    (s.returnOk ss payload).txTrace = s.txTrace := rfl

@[simp] theorem State.returnOk_results (s : State) (ss : Session) (payload : Payload) :
    (s.returnOk ss payload).results = s.results ++ [.ok (some ss.phase) ss.xfers payload] := rfl

@[simp] theorem State.returnOk_busConfigures (s : State) (ss : Session) (payload : Payload) :
    (s.returnOk ss payload).busConfigures = s.busConfigures := rfl

/-! ### putSession -/

@[simp] theorem State.putSession_configured (s : State) (ss : Session) :
    (s.putSession ss).configured = s.configured := rfl

@[simp] theorem State.putSession_cfg (s : State) (ss : Session) :
    (s.putSession ss).cfg = s.cfg := rfl

@[simp] theorem State.putSession_link (s : State) (ss : Session) :
    (s.putSession ss).link = s.link := rfl

@[simp] theorem State.putSession_session (s : State) (ss : Session) :
    (s.putSession ss).session = some ss := rfl

@[simp] theorem State.putSession_syncCount (s : State) (ss : Session) :
    (s.putSession ss).syncCount = s.syncCount := rfl

@[simp] theorem State.putSession_maxAttempts (s : State) (ss : Session) :
    (s.putSession ss).maxAttempts = s.maxAttempts := rfl

@[simp] theorem State.putSession_program (s : State) (ss : Session) :
    (s.putSession ss).program = s.program := rfl

@[simp] theorem State.putSession_answers (s : State) (ss : Session) :
    (s.putSession ss).answers = s.answers := rfl

@[simp] theorem State.putSession_draws (s : State) (ss : Session) :
    (s.putSession ss).draws = s.draws := rfl

@[simp] theorem State.putSession_txTrace (s : State) (ss : Session) :
    (s.putSession ss).txTrace = s.txTrace := rfl

@[simp] theorem State.putSession_results (s : State) (ss : Session) :
    (s.putSession ss).results = s.results := rfl

@[simp] theorem State.putSession_busConfigures (s : State) (ss : Session) :
    (s.putSession ss).busConfigures = s.busConfigures := rfl

/-! ### takeCall -/

@[simp] theorem State.takeCall_configured (s : State) :
    (s.takeCall).configured = s.configured := rfl

@[simp] theorem State.takeCall_cfg (s : State) :
    (s.takeCall).cfg = s.cfg := rfl

@[simp] theorem State.takeCall_link (s : State) :
    (s.takeCall).link = s.link := rfl

@[simp] theorem State.takeCall_session (s : State) :
    (s.takeCall).session = s.session := rfl

@[simp] theorem State.takeCall_syncCount (s : State) :
    (s.takeCall).syncCount = s.syncCount := rfl

@[simp] theorem State.takeCall_maxAttempts (s : State) :
    (s.takeCall).maxAttempts = s.maxAttempts := rfl

@[simp] theorem State.takeCall_program (s : State) :
    (s.takeCall).program = s.program.tail := rfl

@[simp] theorem State.takeCall_answers (s : State) :
    (s.takeCall).answers = s.answers := rfl

@[simp] theorem State.takeCall_draws (s : State) :
    (s.takeCall).draws = s.draws := rfl

@[simp] theorem State.takeCall_txTrace (s : State) :
    (s.takeCall).txTrace = s.txTrace := rfl

@[simp] theorem State.takeCall_results (s : State) :
    (s.takeCall).results = s.results := rfl

@[simp] theorem State.takeCall_busConfigures (s : State) :
    (s.takeCall).busConfigures = s.busConfigures := rfl

/-! ### openSession -/

@[simp] theorem State.openSession_configured (s : State) (c : Cmd) :
    (s.openSession c).configured = s.configured := rfl

@[simp] theorem State.openSession_cfg (s : State) (c : Cmd) :
    (s.openSession c).cfg = s.cfg := rfl

@[simp] theorem State.openSession_link (s : State) (c : Cmd) :
    (s.openSession c).link = s.link := rfl

@[simp] theorem State.openSession_session (s : State) (c : Cmd) :
    (s.openSession c).session = some (Session.fresh c) := rfl

@[simp] theorem State.openSession_syncCount (s : State) (c : Cmd) :
    (s.openSession c).syncCount = s.syncCount := rfl

@[simp] theorem State.openSession_maxAttempts (s : State) (c : Cmd) :
    (s.openSession c).maxAttempts = s.maxAttempts := rfl

@[simp] theorem State.openSession_program (s : State) (c : Cmd) :
    (s.openSession c).program = s.program := rfl

@[simp] theorem State.openSession_answers (s : State) (c : Cmd) :
    (s.openSession c).answers = s.answers := rfl

@[simp] theorem State.openSession_draws (s : State) (c : Cmd) :
    (s.openSession c).draws = s.draws := rfl

@[simp] theorem State.openSession_txTrace (s : State) (c : Cmd) :
    (s.openSession c).txTrace = s.txTrace := rfl

@[simp] theorem State.openSession_results (s : State) (c : Cmd) :
    (s.openSession c).results = s.results := rfl

@[simp] theorem State.openSession_busConfigures (s : State) (c : Cmd) :
    (s.openSession c).busConfigures = s.busConfigures := rfl

/-! ### beginClearBuffer -/

@[simp] theorem beginClearBuffer_configured (s : State) :
    (beginClearBuffer s).configured = s.configured := rfl

@[simp] theorem beginClearBuffer_cfg (s : State) :
    (beginClearBuffer s).cfg = s.cfg := rfl

@[simp] theorem beginClearBuffer_link (s : State) :
    (beginClearBuffer s).link = .syncing := rfl

@[simp] theorem beginClearBuffer_session (s : State) :
    (beginClearBuffer s).session = some (Session.fresh .cb) := rfl

@[simp] theorem beginClearBuffer_syncCount (s : State) :
    (beginClearBuffer s).syncCount = 0 := rfl

@[simp] theorem beginClearBuffer_maxAttempts (s : State) :
    (beginClearBuffer s).maxAttempts = s.maxAttempts := rfl

@[simp] theorem beginClearBuffer_program (s : State) :
    (beginClearBuffer s).program = s.program := rfl

@[simp] theorem beginClearBuffer_answers (s : State) :
    (beginClearBuffer s).answers = s.answers := rfl

@[simp] theorem beginClearBuffer_draws (s : State) :
    (beginClearBuffer s).draws = s.draws := rfl

@[simp] theorem beginClearBuffer_txTrace (s : State) :
    (beginClearBuffer s).txTrace = s.txTrace := rfl

@[simp] theorem beginClearBuffer_results (s : State) :
    (beginClearBuffer s).results = s.results := rfl

@[simp] theorem beginClearBuffer_busConfigures (s : State) :
    (beginClearBuffer s).busConfigures = s.busConfigures := rfl

/-! ### beginReadPos -/

@[simp] theorem beginReadPos_configured (s : State) :
    (beginReadPos s).configured = s.configured := rfl

@[simp] theorem beginReadPos_cfg (s : State) :
    (beginReadPos s).cfg = s.cfg := rfl

@[simp] theorem beginReadPos_link (s : State) :
    (beginReadPos s).link = s.link := rfl

@[simp] theorem beginReadPos_session (s : State) :
    (beginReadPos s).session = some (Session.fresh .rp) := rfl

@[simp] theorem beginReadPos_syncCount (s : State) :
    (beginReadPos s).syncCount = s.syncCount := rfl

@[simp] theorem beginReadPos_maxAttempts (s : State) :
    (beginReadPos s).maxAttempts = s.maxAttempts := rfl

@[simp] theorem beginReadPos_program (s : State) :
    (beginReadPos s).program = s.program := rfl

@[simp] theorem beginReadPos_answers (s : State) :
    (beginReadPos s).answers = s.answers := rfl

@[simp] theorem beginReadPos_draws (s : State) :
    (beginReadPos s).draws = s.draws := rfl

@[simp] theorem beginReadPos_txTrace (s : State) :
    (beginReadPos s).txTrace = s.txTrace := rfl

@[simp] theorem beginReadPos_results (s : State) :
    (beginReadPos s).results = s.results := rfl

@[simp] theorem beginReadPos_busConfigures (s : State) :
    (beginReadPos s).busConfigures = s.busConfigures := rfl

/-! ### beginSetZero -/

@[simp] theorem beginSetZero_configured (s : State) :
    (beginSetZero s).configured = s.configured := rfl

@[simp] theorem beginSetZero_cfg (s : State) :
    (beginSetZero s).cfg = s.cfg := rfl

@[simp] theorem beginSetZero_link (s : State) :
    (beginSetZero s).link = s.link := rfl

@[simp] theorem beginSetZero_session (s : State) :
    (beginSetZero s).session = some (Session.fresh .sz) := rfl

@[simp] theorem beginSetZero_syncCount (s : State) :
    (beginSetZero s).syncCount = s.syncCount := rfl

@[simp] theorem beginSetZero_maxAttempts (s : State) :
    (beginSetZero s).maxAttempts = s.maxAttempts := rfl

@[simp] theorem beginSetZero_program (s : State) :
    (beginSetZero s).program = s.program := rfl

@[simp] theorem beginSetZero_answers (s : State) :
    (beginSetZero s).answers = s.answers := rfl

@[simp] theorem beginSetZero_draws (s : State) :
    (beginSetZero s).draws = s.draws := rfl

@[simp] theorem beginSetZero_txTrace (s : State) :
    (beginSetZero s).txTrace = s.txTrace := rfl

@[simp] theorem beginSetZero_results (s : State) :
    (beginSetZero s).results = s.results := rfl

@[simp] theorem beginSetZero_busConfigures (s : State) :
    (beginSetZero s).busConfigures = s.busConfigures := rfl

/-! ### applyConfiguration -/

@[simp] theorem applyConfiguration_configured (c : BusConfiguration) (s : State) :
    (applyConfiguration c s).configured = true := rfl

@[simp] theorem applyConfiguration_cfg (c : BusConfiguration) (s : State) :
    (applyConfiguration c s).cfg = some c := rfl

@[simp] theorem applyConfiguration_link (c : BusConfiguration) (s : State) :
    (applyConfiguration c s).link = .idle := rfl

@[simp] theorem applyConfiguration_session (c : BusConfiguration) (s : State) :
    (applyConfiguration c s).session = s.session := rfl

@[simp] theorem applyConfiguration_syncCount (c : BusConfiguration) (s : State) :
    (applyConfiguration c s).syncCount = s.syncCount := rfl

@[simp] theorem applyConfiguration_maxAttempts (c : BusConfiguration) (s : State) :
    (applyConfiguration c s).maxAttempts = s.maxAttempts := rfl

@[simp] theorem applyConfiguration_program (c : BusConfiguration) (s : State) :
    (applyConfiguration c s).program = s.program := rfl

@[simp] theorem applyConfiguration_answers (c : BusConfiguration) (s : State) :
    (applyConfiguration c s).answers = s.answers := rfl

@[simp] theorem applyConfiguration_draws (c : BusConfiguration) (s : State) :
    (applyConfiguration c s).draws = s.draws := rfl

@[simp] theorem applyConfiguration_txTrace (c : BusConfiguration) (s : State) :
    (applyConfiguration c s).txTrace = s.txTrace := rfl

@[simp] theorem applyConfiguration_results (c : BusConfiguration) (s : State) :
    (applyConfiguration c s).results = s.results ++ [.ok none 0 .completed] := rfl

@[simp] theorem applyConfiguration_busConfigures (c : BusConfiguration) (s : State) :
    (applyConfiguration c s).busConfigures = s.busConfigures ++ [c] := rfl

/-! ### Session.counted -/

@[simp] theorem Session.counted_cmd (ss : Session) :
    (ss.counted).cmd = ss.cmd := rfl

@[simp] theorem Session.counted_phase (ss : Session) :
    (ss.counted).phase = ss.phase := rfl

@[simp] theorem Session.counted_xfers (ss : Session) :
    (ss.counted).xfers = ss.xfers + 1 := rfl

@[simp] theorem Session.counted_attempts (ss : Session) :
    (ss.counted).attempts = if isLoop ss.phase then ss.attempts + 1 else ss.attempts := rfl

@[simp] theorem Session.counted_msbNibble (ss : Session) :
    (ss.counted).msbNibble = ss.msbNibble := rfl

@[simp] theorem Session.counted_lsbByte (ss : Session) :
    (ss.counted).lsbByte = ss.lsbByte := rfl

/-! ### Session.goto -/

@[simp] theorem Session.goto_cmd (ss : Session) (p : Phase) :
    (ss.goto p).cmd = ss.cmd := rfl

@[simp] theorem Session.goto_phase (ss : Session) (p : Phase) :
    (ss.goto p).phase = p := rfl

@[simp] theorem Session.goto_xfers (ss : Session) (p : Phase) :
    (ss.goto p).xfers = ss.xfers := rfl

@[simp] theorem Session.goto_attempts (ss : Session) (p : Phase) :
    (ss.goto p).attempts = ss.attempts := rfl

@[simp] theorem Session.goto_msbNibble (ss : Session) (p : Phase) :
    (ss.goto p).msbNibble = ss.msbNibble := rfl

@[simp] theorem Session.goto_lsbByte (ss : Session) (p : Phase) :
    (ss.goto p).lsbByte = ss.lsbByte := rfl

/-! ### Session.enterLoop -/

@[simp] theorem Session.enterLoop_cmd (ss : Session) (p : Phase) :
    (ss.enterLoop p).cmd = ss.cmd := rfl

@[simp] theorem Session.enterLoop_phase (ss : Session) (p : Phase) :
    (ss.enterLoop p).phase = p := rfl

@[simp] theorem Session.enterLoop_xfers (ss : Session) (p : Phase) :
    (ss.enterLoop p).xfers = ss.xfers := rfl

@[simp] theorem Session.enterLoop_attempts (ss : Session) (p : Phase) :
    (ss.enterLoop p).attempts = 0 := rfl

@[simp] theorem Session.enterLoop_msbNibble (ss : Session) (p : Phase) :
    (ss.enterLoop p).msbNibble = ss.msbNibble := rfl

@[simp] theorem Session.enterLoop_lsbByte (ss : Session) (p : Phase) :
    (ss.enterLoop p).lsbByte = ss.lsbByte := rfl

/-! ### Session.fresh -/

@[simp] theorem Session.fresh_cmd (c : Cmd) :
    (Session.fresh c).cmd = c := rfl

@[simp] theorem Session.fresh_phase (c : Cmd) :
    (Session.fresh c).phase = firstPhase c := rfl

@[simp] theorem Session.fresh_xfers (c : Cmd) :
    (Session.fresh c).xfers = 0 := rfl

@[simp] theorem Session.fresh_attempts (c : Cmd) :
    (Session.fresh c).attempts = 0 := rfl

@[simp] theorem Session.fresh_msbNibble (c : Cmd) :
    (Session.fresh c).msbNibble = none := rfl

@[simp] theorem Session.fresh_lsbByte (c : Cmd) :
    (Session.fresh c).lsbByte = none := rfl

end Sys2Proof.Machine
end

