-- ==== Sys2Proof/Laws/Ops.lean ====
section
/-! SUPPORT. What each shared operation can do, said once: the exchange, the phase step and the update of each phase,
dispatch, the two views of a phase step, and the step function. -/

namespace Sys2Proof.Machine

/-! ### Positions -/

/-- A position takes 4096 values. -/
@[simp] theorem two_pow_positionBits : 2 ^ positionBits = 4096 := rfl

/-! ### Line identifiers -/

/-- Every implementation has four lines at least. -/
theorem isLine_of_lt {n : Nat} (h : n < 4) : Config.isLine n = true := by
  simp [Config.isLine, h]

/-- Two line identifiers are equal exactly when their numbers are. -/
theorem lineId_eq_iff (a b : LineId) : a = b ↔ a.code = b.code := by
  cases a
  cases b
  simp

/-! ### The transport's next answer -/

@[simp] theorem nextAnswer_cons {s : State} {a : Answer} {as : List Answer} (h : s.answers = a :: as) :
    s.nextAnswer = a := by
  simp [State.nextAnswer, h]

theorem nextAnswer_nil {s : State} (h : s.answers = []) : s.nextAnswer = Config.freeAnswer s.draws := by
  simp [State.nextAnswer, h]

@[simp] theorem takeCall_nextAnswer (s : State) : s.takeCall.nextAnswer = s.nextAnswer := rfl

/-! ### Phases -/

theorem phaseCmd_firstPhase (c : Cmd) : phaseCmd (firstPhase c) = c := by cases c <;> rfl

theorem txByte_is_opcode (p : Phase) :
    txByte p = opcodeNoOp ∨ txByte p = opcodeReadPosition ∨ txByte p = opcodeSetZero := by
  cases p <;> simp [txByte]

theorem txByte_eq_noOp_iff (p : Phase) : txByte p = opcodeNoOp ↔ p ∈ phasesOf .txNoOp := by
  cases p <;> decide

theorem txByte_eq_readPosition_iff (p : Phase) : txByte p = opcodeReadPosition ↔ p ∈ phasesOf .txReadPosition := by
  cases p <;> decide

theorem txByte_eq_setZero_iff (p : Phase) : txByte p = opcodeSetZero ↔ p ∈ phasesOf .txSetZero := by
  cases p <;> decide

/-! ### The update of each phase -/

/-- CB_SYNC: the count reaches two and the command ends, or the session goes on with the new count. -/
theorem updateCbSync_cases (s : State) (ss : Session) (b : Byte) :
    (nextSyncCount s.syncCount b = 2 ∧
        updateCbSync s ss b = { s with
          syncCount := 2, link := .ready, session := none,
          results := s.results ++ [.ok (some ss.phase) ss.xfers .completed] }) ∨
      (nextSyncCount s.syncCount b ≠ 2 ∧
        updateCbSync s ss b = { s with
          syncCount := nextSyncCount s.syncCount b, session := some ss }) := by
  by_cases h : nextSyncCount s.syncCount b = 2
  · exact .inl ⟨h, by simp [updateCbSync, syncThreshold, State.returnOk, h]⟩
  · exact .inr ⟨h, by simp [updateCbSync, syncThreshold, State.putSession, h]⟩

/-- RP_CMD: on to the echo wait, with no attempt made. -/
theorem updateRpCmd_eq (s : State) (ss : Session) (b : Byte) :
    updateRpCmd s ss b = { s with session := some { ss with phase := .rpEcho, attempts := 0 } } := rfl

/-- RP_ECHO: on to RP_SHIFT on the echo, else where it was. -/
theorem updateRpEcho_cases (s : State) (ss : Session) (b : Byte) :
    (b = valueEchoRead ∧ updateRpEcho s ss b = { s with session := some { ss with phase := .rpShift } }) ∨
      (b ≠ valueEchoRead ∧ updateRpEcho s ss b = { s with session := some ss }) := by
  by_cases h : b = valueEchoRead
  · exact .inl ⟨h, by simp [updateRpEcho, isEchoRead, h, State.putSession, Session.goto]⟩
  · exact .inr ⟨h, by simp [updateRpEcho, isEchoRead, h, State.putSession]⟩

/-- RP_SHIFT: on to RP_MSB. -/
theorem updateRpShift_eq (s : State) (ss : Session) (b : Byte) :
    updateRpShift s ss b = { s with session := some { ss with phase := .rpMsb } } := rfl

/-- RP_MSB: on to RP_LSB with the nibble latched. -/
theorem updateRpMsb_eq (s : State) (ss : Session) (b : Byte) :
    updateRpMsb s ss b =
      { s with session := some { ss with phase := .rpLsb, msbNibble := some (latchNibble b) } } := rfl

/-- RP_LSB: the command ends with the position of the latched nibble and this byte. -/
theorem updateRpLsb_eq (s : State) (ss : Session) (b : Byte) (m : Nibble) (h : ss.msbNibble = some m) :
    updateRpLsb s ss b = .next { s with
      session := none,
      results := s.results ++ [.ok (some ss.phase) ss.xfers (.position (assemblePosition m b))] } := by
  simp [updateRpLsb, sessionPosition, State.returnOk, h]

/-- RP_LSB without a latched nibble has no step. -/
theorem updateRpLsb_unwritten (s : State) (ss : Session) (b : Byte) (h : ss.msbNibble = none) :
    updateRpLsb s ss b = .refused .unwrittenLatch := by
  simp [updateRpLsb, sessionPosition, h]

/-- All RP_LSB can do, if it answers a next state. -/
theorem updateRpLsb_next {s t : State} {ss : Session} {b : Byte} (h : updateRpLsb s ss b = .next t) :
    ∃ m, ss.msbNibble = some m ∧ t = { s with
      session := none,
      results := s.results ++ [.ok (some ss.phase) ss.xfers (.position (assemblePosition m b))] } := by
  cases hm : ss.msbNibble with
  | none => simp [updateRpLsb_unwritten s ss b hm] at h
  | some m =>
    rw [updateRpLsb_eq s ss b m hm] at h
    exact ⟨m, rfl, by cases h; rfl⟩

/-- SZ_CMD: on to the acknowledgement wait, with no attempt made. -/
theorem updateSzCmd_eq (s : State) (ss : Session) (b : Byte) :
    updateSzCmd s ss b = { s with session := some { ss with phase := .szAck, attempts := 0 } } := rfl

/-- SZ_ACK: the command ends on the acknowledgement, else the session stays where it was. -/
theorem updateSzAck_cases (s : State) (ss : Session) (b : Byte) :
    (b = valueAckZero ∧ updateSzAck s ss b = { s with
        session := none,
        results := s.results ++ [.ok (some ss.phase) ss.xfers (.powerCycleRequired true)] }) ∨
      (b ≠ valueAckZero ∧ updateSzAck s ss b = { s with session := some ss }) := by
  by_cases h : b = valueAckZero
  · exact .inl ⟨h, by simp [updateSzAck, isAckZero, h, State.returnOk]⟩
  · exact .inr ⟨h, by simp [updateSzAck, isAckZero, h, State.putSession]⟩

/-! ### The phase step -/

theorem budgetSpent_iff (s : State) (ss : Session) :
    budgetSpent s ss = true ↔ isLoop ss.phase = true ∧ ss.attempts = s.maxAttempts := by
  simp [budgetSpent]

/-- The budget is spent: the step raises SyncTimeout and makes no exchange. -/
theorem phaseStep_timeout {s : State} {ss : Session} (h : budgetSpent s ss = true) (a : Answer) :
    phaseStep s ss a = .next (s.raiseInSession .syncTimeout ss) := by
  simp [phaseStep, h]

/-- The transport answers BusFault: the step raises it after the exchange. -/
theorem phaseStep_busFault {s : State} {ss : Session} (h : budgetSpent s ss = false) :
    phaseStep s ss .busFault = .next ((s.afterXfer (txByte ss.phase)).raiseInSession .busFault ss) := by
  simp [phaseStep, h]

/-- The transport answers a byte: it is counted and the phase's rule is applied to it. -/
theorem phaseStep_byte {s : State} {ss : Session} (h : budgetSpent s ss = false) (b : Byte) :
    phaseStep s ss (.byte b) = update ss.phase (s.afterXfer (txByte ss.phase)) ss.counted b := by
  simp [phaseStep, h]

/-- The one phase whose rule may have no step is RP_LSB, where no nibble is latched. -/
theorem update_refused_iff (p : Phase) (s : State) (ss : Session) (b : Byte) (r : Refusal) :
    update p s ss b = .refused r ↔ p = .rpLsb ∧ ss.msbNibble = none ∧ r = .unwrittenLatch := by
  cases p with
  | rpLsb =>
    cases hm : ss.msbNibble with
    | none => simp [update, updateRpLsb_unwritten s ss b hm, eq_comm]
    | some m => simp [update, updateRpLsb_eq s ss b m hm]
  | _ => simp [update]

/-- No rule of a phase answers a fault. -/
theorem update_ne_fault (p : Phase) (s : State) (ss : Session) (b : Byte) (f : Fault) :
    update p s ss b ≠ .fault f := nomatch f

/-- All a phase step can do: one of the three above. -/
theorem phaseStep_cases (s : State) (ss : Session) (a : Answer) :
    (budgetSpent s ss = true ∧ phaseStep s ss a = .next (s.raiseInSession .syncTimeout ss)) ∨
      (budgetSpent s ss = false ∧ a = .busFault ∧
        phaseStep s ss a = .next ((s.afterXfer (txByte ss.phase)).raiseInSession .busFault ss)) ∨
      (∃ b, budgetSpent s ss = false ∧ a = .byte b ∧
        phaseStep s ss a = update ss.phase (s.afterXfer (txByte ss.phase)) ss.counted b) := by
  cases h : budgetSpent s ss
  · cases a with
    | byte b => exact .inr (.inr ⟨b, rfl, rfl, phaseStep_byte h b⟩)
    | busFault => exact .inr (.inl ⟨rfl, rfl, phaseStep_busFault h⟩)
  · exact .inl ⟨rfl, phaseStep_timeout h a⟩

/-- A phase step has no step in one case alone: RP_LSB without a latched nibble, answered a byte. -/
theorem phaseStep_refused_iff (s : State) (ss : Session) (a : Answer) (r : Refusal) :
    phaseStep s ss a = .refused r ↔
      ss.phase = .rpLsb ∧ ss.msbNibble = none ∧ (∃ b, a = .byte b) ∧ r = .unwrittenLatch := by
  rcases phaseStep_cases s ss a with ⟨hb, h⟩ | ⟨-, rfl, h⟩ | ⟨b, -, rfl, h⟩
  · have hl := ((budgetSpent_iff s ss).1 hb).1
    cases hp : ss.phase <;> simp [hp, isLoop] at hl <;> simp [h]
  · simp [h]
  · simp [h, update_refused_iff]

/-! ### The two views of a phase step -/

theorem txStep_next {op : Byte} {s t : State} (h : txStep op s = .next t) :
    ∃ ss, s.session = some ss ∧ txByte ss.phase = op ∧ phaseStep s ss s.nextAnswer = .next t := by
  unfold txStep at h
  split at h
  · cases h
  · rename_i ss hs
    split at h
    · exact ⟨ss, hs, ‹_›, h⟩
    · cases h

theorem txStep_of_session {s : State} {ss : Session} (hs : s.session = some ss) :
    txStep (txByte ss.phase) s = phaseStep s ss s.nextAnswer := by
  simp [txStep, hs]

theorem rxStep_next {ps : List Phase} {b : Byte} {s t : State} (h : rxStep ps b s = .next t) :
    ∃ ss, s.session = some ss ∧ ss.phase ∈ ps ∧ phaseStep s ss (.byte b) = .next t := by
  unfold rxStep at h
  split at h
  · cases h
  · rename_i ss hs
    split at h
    · exact ⟨ss, hs, ‹_›, h⟩
    · cases h

theorem rxStep_of_session {s : State} {ss : Session} {ps : List Phase} (hs : s.session = some ss)
    (hp : ss.phase ∈ ps) (b : Byte) : rxStep ps b s = phaseStep s ss (.byte b) := by
  simp [rxStep, hs, hp]

/-- An instruction of the received frame of phase `p` is the phase step answered with its byte. -/
theorem exec_decodeRx {s : State} {ss : Session} (hs : s.session = some ss) (b : Byte) :
    exec (decodeRx ss.phase b) s = phaseStep s ss (.byte b) := by
  have hb : dataMsbByte (ignoredNibble b) (positionNibble b) = b := by revert b; decide
  cases hp : ss.phase <;>
    simp [decodeRx, exec, execRxAckIdle, execRxEchoRead, execRxAckZero, execRxUninspected, execRxDataMsb,
      execRxDataLsb, rxStep, hs, hp, hb]

/-! ### Dispatch -/

theorem dispatch_busy {s : State} {ss : Session} (hs : s.session = some ss) (c : Option Cmd) :
    dispatch c s = .refused .hostCallWhileBusy := by
  simp [dispatch, hs]

theorem dispatch_unrecognised {s : State} (hs : s.session = none) :
    dispatch none s = .next (s.takeCall.raiseAtDispatch .invalidCommand) := by
  simp [dispatch, hs]

theorem dispatch_notConfigured {s : State} (hs : s.session = none) (hc : s.configured = false) (c : Cmd) :
    dispatch (some c) s = .next (s.takeCall.raiseAtDispatch .notConfigured) := by
  simp [dispatch, hs, hc]

theorem dispatch_accepted {s : State} (hs : s.session = none) (hc : s.configured = true) (c : Cmd) :
    dispatch (some c) s = .next (beginCommand c s.takeCall) := by
  simp [dispatch, hs, hc]

/-- All a dispatch can do, if it answers a next state. -/
theorem dispatch_next {c : Option Cmd} {s t : State} (h : dispatch c s = .next t) :
    s.session = none ∧
      ((c = none ∧ t = s.takeCall.raiseAtDispatch .invalidCommand) ∨
        (∃ c', c = some c' ∧ s.configured = false ∧ t = s.takeCall.raiseAtDispatch .notConfigured) ∨
        (∃ c', c = some c' ∧ s.configured = true ∧ t = beginCommand c' s.takeCall)) := by
  unfold dispatch at h
  split at h
  · cases h
  · rename_i hs
    refine ⟨hs, ?_⟩
    split at h
    · exact .inl ⟨rfl, by cases h; rfl⟩
    · rename_i c'
      split at h
      · rename_i hc
        exact .inr (.inr ⟨c', rfl, hc, by cases h; rfl⟩)
      · rename_i hc
        exact .inr (.inl ⟨c', rfl, by simpa using hc, by cases h; rfl⟩)

/-- All configure can do, if it answers a next state. -/
theorem execHostConfigure_next {c : BusConfiguration} {s t : State} (h : execHostConfigure c s = .next t) :
    s.session = none ∧ c.defect = none ∧ t = applyConfiguration c s.takeCall := by
  unfold execHostConfigure at h
  split at h
  · cases h
  · rename_i hs
    split at h
    · cases h
    · rename_i hd
      exact ⟨hs, hd, by cases h; rfl⟩

/-! ### The step -/

theorem exec_decodeHost (id : String) (s : State) :
    exec (decodeHost id) s = dispatch (recognise id) s := by
  cases h : recognise id with
  | none => simp [decodeHost, h, exec, execHostUnrecognised]
  | some c => cases c <;> simp [decodeHost, h, exec, execHostClearBuffer, execHostReadPos, execHostSetZero]

/-- While a session is present the step is its phase step. -/
theorem step_session {s : State} {ss : Session} (hs : s.session = some ss) :
    step s = phaseStep s ss s.nextAnswer := by
  have hf : fetch s = some (.wireTx (txByte ss.phase)) := by simp [fetch, hs]
  simp only [step, hf]
  cases hp : ss.phase <;>
    simp [txByte, decode, decodeTx, opcodeNoOp, opcodeReadPosition, opcodeSetZero, exec, execTxNoOp,
      execTxReadPosition, execTxSetZero, txStep, hs, hp]

/-- With no session and no call presented the step changes nothing. -/
theorem step_idle {s : State} (hs : s.session = none) (hp : s.program = []) : step s = .next s := by
  simp [step, fetch, hs, hp]

/-- With no session, a presented identifier is dispatched. -/
theorem step_command {s : State} {id : String} {cs : List HostCall} (hs : s.session = none)
    (hp : s.program = .command id :: cs) : step s = dispatch (recognise id) s := by
  simp [step, fetch, hs, hp, callFrame, decode, exec_decodeHost]

/-- With no session, a presented configuration is applied, or refused with its defect. -/
theorem step_configure {s : State} {c : BusConfiguration} {cs : List HostCall} (hs : s.session = none)
    (hp : s.program = .configure c :: cs) : step s = execHostConfigure c s := by
  cases hd : c.defect <;>
    simp [step, fetch, hs, hp, callFrame, decode, decodeConfig, hd, exec, execHostConfigure, refusalOf]

/-- All a step can do, if it answers a next state. -/
theorem step_next {s t : State} (h : step s = .next t) :
    (∃ ss, s.session = some ss ∧ phaseStep s ss s.nextAnswer = .next t) ∨
      (s.session = none ∧ s.program = [] ∧ t = s) ∨
      (∃ id cs, s.session = none ∧ s.program = .command id :: cs ∧ dispatch (recognise id) s = .next t) ∨
      (∃ c cs, s.session = none ∧ s.program = .configure c :: cs ∧ c.defect = none ∧
        t = applyConfiguration c s.takeCall) := by
  cases hs : s.session with
  | some ss =>
    rw [step_session hs] at h
    exact .inl ⟨ss, rfl, h⟩
  | none =>
    refine .inr ?_
    cases hp : s.program with
    | nil =>
      rw [step_idle hs hp] at h
      exact .inl ⟨rfl, rfl, by cases h; rfl⟩
    | cons c cs =>
      refine .inr ?_
      cases c with
      | command id =>
        rw [step_command hs hp] at h
        exact .inl ⟨id, cs, rfl, rfl, h⟩
      | configure c =>
        rw [step_configure hs hp] at h
        obtain ⟨-, hd, ht⟩ := execHostConfigure_next h
        exact .inr ⟨c, cs, rfl, rfl, hd, ht⟩

/-! ### Runs -/

theorem runsTo_zero (s : State) : RunsTo 0 s s := rfl

theorem runsTo_succ {k : Nat} {s t u : State} (h : step s = .next t) (hk : RunsTo k t u) :
    RunsTo (k + 1) s u := by
  have hc : Sys2Proof.core.step s = .next t := h
  simp only [RunsTo, Host.Core.run, hc]
  exact hk

/-! ### The placing of a table word -/

theorem decode_tableFrame_cases (b : Byte) :
    (tableFrame b = .wireTx b ∧ (b = opcodeNoOp ∨ b = opcodeReadPosition ∨ b = opcodeSetZero)) ∨
      ∃ p, tableFrame b = .wireRx p b := by
  unfold tableFrame
  split
  · exact .inl ⟨rfl, ‹_›⟩
  · refine .inr ?_
    split
    · exact ⟨_, rfl⟩
    · split <;> exact ⟨_, rfl⟩

/-- A placed frame of the table is what the next step runs. -/
theorem step_placeFrame (s : State) (b : Byte) (i : Instr) (hd : decode (tableFrame b) = .ok i) :
    step (placeFrame s (tableFrame b)) = exec i (placeFrame s (tableFrame b)) := by
  rcases decode_tableFrame_cases b with ⟨hf, hop⟩ | ⟨p, hf⟩
  · rw [hf] at hd ⊢
    have hx : txByte (sessionAt (phaseOfOpcode b)).phase = b := by rcases hop with rfl | rfl | rfl <;> rfl
    have hfetch : fetch (placeFrame s (.wireTx b)) = some (.wireTx b) := by simp [fetch, placeFrame, hx]
    simp only [step, hfetch, hd]
  · rw [hf] at hd ⊢
    have hi : decodeRx p b = i := by simpa [decode] using hd
    have hss : (placeFrame s (.wireRx p b)).session = some (sessionAt p) := rfl
    rw [step_session hss, ← hi]
    exact (exec_decodeRx hss b).symm

/-- A word of the opcode table is what the next step runs. -/
theorem step_withFetchWord (s : State) (nbits w : Nat) (i : Instr) (h : decodeTableWord nbits w = some i) :
    step (s.withFetchWord nbits w) = exec i (s.withFetchWord nbits w) := by
  unfold decodeTableWord at h
  split at h
  · cases h
  · rename_i f hf
    obtain ⟨b, -, rfl⟩ : ∃ b, (wordBytes (nbits / 8) w).head? = some b ∧ tableFrame b = f := by
      simpa [tableWordFrame] using hf
    have hd : decode (tableFrame b) = .ok i := by
      split at h
      · rename_i j hj
        rw [hj]
        cases h
        rfl
      · cases h
    simpa [State.withFetchWord, placeTableWord, hf] using step_placeFrame s b i hd

end Sys2Proof.Machine
end

