-- ==== Sys2Proof/Laws/PerInstr.lean ====
section
/-! SUPPORT. A statement for every instruction, proved one constructor at a time: every frame that stands for it is of
the format of its row in spec/opcode_table.json (spec/30_encoding.md R90, R109). -/

namespace Sys2Proof.Laws

/-- The encodings of an instruction are of its row's format, and the frame it is written as is one of them. -/
def FormatAgrees.Statement (i : Instr) : Prop :=
  encode i ∈ encodings i ∧ ∀ f ∈ encodings i, f.format = i.format

theorem FormatAgrees.txNoOp : FormatAgrees.Statement .txNoOp := by
  simp [FormatAgrees.Statement, encode, encodings, Frame.format, Phase.rxFormat, Instr.format]

theorem FormatAgrees.txReadPosition : FormatAgrees.Statement .txReadPosition := by
  simp [FormatAgrees.Statement, encode, encodings, Frame.format, Phase.rxFormat, Instr.format]

theorem FormatAgrees.txSetZero : FormatAgrees.Statement .txSetZero := by
  simp [FormatAgrees.Statement, encode, encodings, Frame.format, Phase.rxFormat, Instr.format]

theorem FormatAgrees.rxAckIdle (rx : Byte) : FormatAgrees.Statement (.rxAckIdle rx) := by
  simp [FormatAgrees.Statement, encode, encodings, Frame.format, Phase.rxFormat, Instr.format]

theorem FormatAgrees.rxEchoRead (rx : Byte) : FormatAgrees.Statement (.rxEchoRead rx) := by
  simp [FormatAgrees.Statement, encode, encodings, Frame.format, Phase.rxFormat, Instr.format]

theorem FormatAgrees.rxAckZero (rx : Byte) : FormatAgrees.Statement (.rxAckZero rx) := by
  simp [FormatAgrees.Statement, encode, encodings, Frame.format, Phase.rxFormat, Instr.format]

theorem FormatAgrees.rxUninspected (x : Byte) : FormatAgrees.Statement (.rxUninspected x) := by
  simp [FormatAgrees.Statement, encode, encodings, Frame.format, Phase.rxFormat, Instr.format]

theorem FormatAgrees.rxDataMsb (x h : Nibble) : FormatAgrees.Statement (.rxDataMsb x h) := by
  simp [FormatAgrees.Statement, encode, encodings, Frame.format, Phase.rxFormat, Instr.format]

theorem FormatAgrees.rxDataLsb (l : Byte) : FormatAgrees.Statement (.rxDataLsb l) := by
  simp [FormatAgrees.Statement, encode, encodings, Frame.format, Phase.rxFormat, Instr.format]

theorem FormatAgrees.hostClearBuffer : FormatAgrees.Statement .hostClearBuffer := by
  simp [FormatAgrees.Statement, encode, encodings, Frame.format, Phase.rxFormat, Instr.format]

theorem FormatAgrees.hostReadPos : FormatAgrees.Statement .hostReadPos := by
  simp [FormatAgrees.Statement, encode, encodings, Frame.format, Phase.rxFormat, Instr.format]

theorem FormatAgrees.hostSetZero : FormatAgrees.Statement .hostSetZero := by
  simp [FormatAgrees.Statement, encode, encodings, Frame.format, Phase.rxFormat, Instr.format]

theorem FormatAgrees.hostUnrecognised (id : String) : FormatAgrees.Statement (.hostUnrecognised id) := by
  simp [FormatAgrees.Statement, encode, encodings, Frame.format, Phase.rxFormat, Instr.format]

theorem FormatAgrees.hostConfigure (c : BusConfiguration) : FormatAgrees.Statement (.hostConfigure c) := by
  simp [FormatAgrees.Statement, encode, encodings, Frame.format, Phase.rxFormat, Instr.format]

end Sys2Proof.Laws
end

