-- ==== Sys2Proof/Tests/Slice0.lean ====
section
/-! SUPPORT. The model's own tests: well-formedness refuses each ill-formed term, words written out from the spec's
encodings decode to the instruction they stand for, single steps agree with spec/95_test_vectors.md, and the hypotheses
of every statement are met together by a concrete state (test_hyps_…). -/

namespace Sys2Proof.Tests

open Sys2Proof Sys2Proof.Machine

/-! ### Helpers -/

/-- The four lines every implementation has. -/
def line (n : Fin 4) : LineId := ⟨n, isLine_of_lt n.isLt⟩

/-- The configuration c0 of spec/95_test_vectors.md. -/
def c0 : BusConfiguration := ⟨line 0, line 1, line 2, line 3, ⟨false, false⟩, 0, 0x00⟩

/-- An idle, configured block with the budget `m`. -/
def ready (m : Nat) : State := { State.reset with configured := true, cfg := some c0, maxAttempts := m }

/-- The session of a command that stands in phase `p` with `a` attempts made. -/
def sessionIn (p : Phase) (a : Nat) : Session where
  cmd := phaseCmd p
  phase := p
  xfers := exchangesMade p a
  attempts := a
  msbNibble := match p with | .rpLsb => some 0xB | _ => none
  lsbByte := none

/-- A command in flight in phase `p`, budget 3, `a` attempts made, with a script of answers. -/
def flying (p : Phase) (a : Nat) (as : List Answer) : State :=
  { ready 3 with
    session := some (sessionIn p a)
    link := if phaseCmd p = .cb then .syncing else .idle
    txTrace := commandTrace (phaseCmd p) (exchangesMade p a)
    answers := as }

/-- What an outcome says of the next state, if it is one. -/
def seen {α : Type} (f : State → α) : StepResult → Option α
  | .next t => some (f t)
  | .fault _ => none
  | .refused _ => none

/-- The phase the next state stands in. -/
def phaseNow (s : State) : Option Phase := s.session.map Session.phase

/-! ### Well-formedness refuses -/

theorem test_equalLines_refused : (Instr.hostConfigure { c0 with clkLine := line 0 }).wellFormed = false := by decide

theorem test_lastTwoLinesEqual_refused : (Instr.hostConfigure { c0 with mosiLine := line 2 }).wellFormed = false := by decide

theorem test_reservedOptionBits_refused :
    (Instr.hostConfigure { c0 with options := 0x04 }).wellFormed = false ∧
      (Instr.hostConfigure { c0 with options := 0x08 }).wellFormed = false := by decide

theorem test_shortFinalByte_refused :
    (Instr.hostConfigure { c0 with options := 0x10 }).wellFormed = false ∧
      (Instr.hostConfigure { c0 with options := 0x80 }).wellFormed = false := by decide

theorem test_recognisedIdentifierAsUnrecognised_refused :
    (Instr.hostUnrecognised "clear_buffer").wellFormed = false ∧
      (Instr.hostUnrecognised "read_pos").wellFormed = false ∧
      (Instr.hostUnrecognised "set_zero").wellFormed = false := by decide

theorem test_c0_wellFormed : (Instr.hostConfigure c0).wellFormed = true := by decide

/-! ### Words written out (spec/30_encoding.md R91, R94 to R96, R98, R104, R111) -/

theorem test_decode_noOp : decode (.wireTx 0b00000000#8) = .ok .txNoOp := by decide

theorem test_decode_readPosition : decode (.wireTx 0b00010000#8) = .ok .txReadPosition := by decide

theorem test_decode_setZero : decode (.wireTx 0b01110000#8) = .ok .txSetZero := by decide

/-- R93: a byte that is not one of the three opcodes is never transmitted. -/
theorem test_decode_notAnOpcode : decode (.wireTx 0b01110001#8) = .error (.notAnOpcode 0x71) := by decide

theorem test_decode_ackIdle : decode (.wireRx .cbSync 0b10100101#8) = .ok (.rxAckIdle 0xA5) := by decide

theorem test_decode_echoRead : decode (.wireRx .rpEcho 0b00010000#8) = .ok (.rxEchoRead 0x10) := by decide

theorem test_decode_ackZero : decode (.wireRx .szAck 0b10000000#8) = .ok (.rxAckZero 0x80) := by decide

theorem test_decode_uninspected :
    decode (.wireRx .rpCmd 0b10100101#8) = .ok (.rxUninspected 0xA5) ∧
      decode (.wireRx .rpShift 0b00010000#8) = .ok (.rxUninspected 0x10) ∧
      decode (.wireRx .szCmd 0b10000000#8) = .ok (.rxUninspected 0x80) := by decide

/-- The upper field is xxxx = 1111, the lower hhhh = 1011. -/
theorem test_decode_dataMsb : decode (.wireRx .rpMsb 0b11111011#8) = .ok (.rxDataMsb 0b1111#4 0b1011#4) := by decide

theorem test_decode_dataLsb : decode (.wireRx .rpLsb 0b01001111#8) = .ok (.rxDataLsb 0b01001111#8) := by decide

theorem test_decode_identifiers :
    decode (.hostCmd "clear_buffer") = .ok .hostClearBuffer ∧
      decode (.hostCmd "read_pos") = .ok .hostReadPos ∧
      decode (.hostCmd "set_zero") = .ok .hostSetZero := by decide

/-- V-DISP-5 to V-DISP-8: near misses. -/
theorem test_decode_nearMisses :
    ["", "Read_Pos", "read_pos ", " read_pos", "readPosition", "configure"].map (fun id => decode (.hostCmd id)) =
      ["", "Read_Pos", "read_pos ", " read_pos", "readPosition", "configure"].map
        (fun id => .ok (.hostUnrecognised id)) := by decide

theorem test_decode_configure : decode (.cfg c0) = .ok (.hostConfigure c0) := by decide

/-- V-CFG-5, V-CFG-4. -/
theorem test_config_fields :
    (csDisable 0x01, noAutoDir 0x01, finalBits 0x01) = (1, 0, 0) ∧
      (csDisable 0x02, noAutoDir 0x02, finalBits 0x02) = (0, 1, 0) ∧ finalBits 0x80 = 8 ∧ reservedBits 0x08 = 2 ∧
      [0x0000#16, 0x0001#16, 0x8000#16, 0xFFFF#16].map divisorOf = [65536, 1, 32768, 65535] := by decide

/-- The table's words, numbered as the table numbers them: eight bits each; a longer word's first byte is the frame. -/
theorem test_tableWords :
    decodeTableWord 8 0x00 = some .txNoOp ∧ decodeTableWord 8 0x10 = some .txReadPosition ∧
      decodeTableWord 8 0x70 = some .txSetZero ∧ decodeTableWord 16 0x00A5 = some (.rxAckIdle 0xA5) ∧
      decodeTableWord 8 0x80 = some (.rxAckZero 0x80) ∧ decodeTableWord 8 0xFF = some (.rxUninspected 0xFF) ∧
      decodeTableWord 0 0 = none := by decide

/-- From reset, a placed table word is what the next step runs: its byte is transmitted. -/
theorem test_withFetchWord_runs :
    seen State.txTrace (step (State.reset.withFetchWord 8 0x70)) = some [0x70] ∧
      seen State.syncCount (step (State.reset.withFetchWord 8 0xA5)) = some 1 := by decide

/-! ### Single steps -/

/-- S2, V-CB-2: the third and fourth answers of [0xA5, 0x00, 0xA5, 0xA5]; and a match where one was counted. -/
theorem test_noOp_counts :
    seen State.syncCount (exec .txNoOp (flying .cbSync 0 [.byte 0xA5])) = some 1 ∧
      seen (fun t => (t.syncCount, t.link, t.results))
        (exec .txNoOp { flying .cbSync 1 [.byte 0xA5] with syncCount := 1 }) =
          some (2, .ready, [.ok (some .cbSync) 2 .completed]) := by decide

/-- V-CB-8: 0x5A and 0x25 are mismatches. -/
theorem test_ackIdle_mismatch :
    seen (fun t => (t.syncCount, phaseNow t)) (exec (.rxAckIdle 0x25) { flying .cbSync 1 [] with syncCount := 1 }) =
      some (0, some .cbSync) := by decide

/-- V-RP-3: a 0x10 in the answer of RP_CMD is not the echo. -/
theorem test_readPosition_notInspected :
    seen (fun t => (phaseNow t, t.txTrace)) (exec .txReadPosition (flying .rpCmd 0 [.byte 0x10])) =
      some (some .rpEcho, [0x10]) := by decide

/-- V-RP-3, V-RP-5: 0xA5 is a mismatch, the echo counts on the last allowed no-op. -/
theorem test_echoRead :
    seen phaseNow (exec (.rxEchoRead 0xA5) (flying .rpEcho 0 [])) = some (some .rpEcho) ∧
      seen phaseNow (exec (.rxEchoRead 0x10) (flying .rpEcho 2 [])) = some (some .rpShift) := by decide

/-- V-RP-4: the budget of 3 is spent; the answer 0x10 is never fetched, four exchanges were made. -/
theorem test_echoRead_timeout :
    seen (fun t => (t.results, t.link, t.answers)) (exec .txNoOp (flying .rpEcho 3 [.byte 0x10])) =
      some ([.fault .syncTimeout (some .rpEcho) 4], .idle, [.byte 0x10]) := by decide

theorem test_uninspected_shifts :
    seen phaseNow (exec (.rxUninspected 0x10) (flying .rpShift 1 [])) = some (some .rpMsb) := by decide

/-- V-RP-2 with a high nibble: 0xFB latches 0xB. -/
theorem test_dataMsb_latches :
    seen (fun t => t.session.map Session.msbNibble) (exec (.rxDataMsb 0xF 0xB) (flying .rpMsb 1 [])) =
      some (some (some 0xB)) := by decide

/-- S3, V-RP-1: 0x0B and 0x4F give 2895 after six exchanges. -/
theorem test_dataLsb_delivers :
    seen (fun t => (t.results, t.session)) (exec (.rxDataLsb 0x4F) (flying .rpLsb 2 [])) =
      some ([.ok (some .rpLsb) 6 (.position 2895)], none) := by decide

/-- 0x80 while SET_ZERO is sent does not end the command (D11). -/
theorem test_setZero_notInspected :
    seen (fun t => (phaseNow t, t.txTrace, t.results)) (exec .txSetZero (flying .szCmd 0 [.byte 0x80])) =
      some (some .szAck, [0x70], []) := by decide

/-- S4: the acknowledgement, and a near miss. -/
theorem test_ackZero :
    seen State.results (exec (.rxAckZero 0x80) (flying .szAck 0 [])) =
        some [.ok (some .szAck) 2 (.powerCycleRequired true)] ∧
      seen phaseNow (exec (.rxAckZero 0x81) (flying .szAck 0 [])) = some (some .szAck) := by decide

/-- S7: a BusFault on the transfer of RP_SHIFT with one attempt made: two transfers had succeeded. -/
theorem test_busFault :
    seen (fun t => (t.results, t.txTrace.length)) (exec .txNoOp (flying .rpShift 1 [.busFault])) =
      some ([.fault .busFault (some .rpShift) 2], 3) := by decide

/-- S6: before configure. -/
theorem test_notConfigured :
    seen (fun t => (t.results, t.link)) (exec .hostClearBuffer State.reset) =
      some ([.fault .notConfigured none 0], .idle) := by decide

/-- V-CB-10: the counter starts from 0 whatever it was. -/
theorem test_clearBuffer_starts :
    seen (fun t => (t.syncCount, t.link, phaseNow t)) (exec .hostClearBuffer { ready 3 with syncCount := 2 }) =
      some (0, .syncing, some .cbSync) := by decide

theorem test_readPos_starts : seen phaseNow (exec .hostReadPos (ready 3)) = some (some .rpCmd) := by decide

theorem test_setZero_starts : seen phaseNow (exec .hostSetZero (ready 3)) = some (some .szCmd) := by decide

/-- V-DISP-3: the identifier is tested before configured. -/
theorem test_unrecognised :
    seen State.results (exec (.hostUnrecognised "bogus") State.reset) =
      some [.fault .invalidCommand none 0] := by decide

/-- V-CFG-2: link drops, the counter stays. -/
theorem test_configure :
    seen (fun t => (t.configured, t.cfg, t.link, t.syncCount))
        (exec (.hostConfigure { c0 with options := 0x03 }) { ready 3 with link := .ready, syncCount := 2 }) =
      some (true, some { c0 with options := 0x03 }, .idle, 2) := by decide

/-- V-DEC: the masked nibble and the raw byte. -/
theorem test_decodePosition :
    decodePosition 0x0B 0x4F = 2895 ∧ decodePosition 0xFF 0xFF = 4095 ∧ decodePosition 0xF0 0x00 = 0 := by decide

/-! ### The hypotheses of the statements are met -/

/-- The invariant holds of a command in flight in every phase, at the boundaries of the budget. -/
theorem inv_flying (p : Phase) (a : Nat) (as : List Answer) (ha : a ≤ 3)
    (h : (p = .rpShift ∨ p = .rpMsb ∨ p = .rpLsb) → 1 ≤ a) : Inv (flying p a as) where
  budget_pos := by simp [flying, ready]
  cfg_iff := rfl
  session_configured := fun _ => rfl
  syncing_iff := by cases p <;> simp [flying, sessionIn, phaseCmd]
  sync_le_two := by simp [flying, ready, State.reset]
  sync_in_flight := by intro ss hs _; simp [flying, ready, State.reset]
  ready_counted := by cases p <;> simp [flying, phaseCmd]
  session_ok := by
    intro ss hs
    obtain rfl : sessionIn p a = ss := by simpa [flying] using hs
    exact ⟨rfl, ha, rfl, h, by cases p <;> simp [sessionIn], rfl⟩

theorem inv_ready : Inv (ready 3) where
  budget_pos := by simp [ready]
  cfg_iff := rfl
  session_configured := by simp [ready, State.reset]
  syncing_iff := by simp [ready, State.reset]
  sync_le_two := by simp [ready, State.reset]
  sync_in_flight := by simp [ready, State.reset]
  ready_counted := by simp [ready, State.reset]
  session_ok := by simp [ready, State.reset]

theorem test_hyps_DecodeOfEncodingIsTheInstruction :
    [Instr.txNoOp, .txReadPosition, .txSetZero, .rxAckIdle 0x5A, .rxEchoRead 0x10, .rxAckZero 0x80,
      .rxUninspected 0xFF, .rxDataMsb 0xF 0xF, .rxDataLsb 0xFF, .hostClearBuffer, .hostReadPos, .hostSetZero,
      .hostUnrecognised "", .hostConfigure { c0 with options := 0x03 }].all Instr.wellFormed = true := by decide

theorem test_hyps_DecodedFrameIsAnEncoding : decode (.wireRx .szCmd 0x80) = .ok (.rxUninspected 0x80) := by decide

theorem test_hyps_IdentifiersAreRecognisedExactly :
    "readPosition" ≠ "clear_buffer" ∧ "readPosition" ≠ "read_pos" ∧ "readPosition" ≠ "set_zero" ∧
      State.reset.session = none := by decide

theorem test_hyps_DivisorEncodingZeroMeans65536 : (0 : BitVec 16) = 0 ∧ (0xFFFF : BitVec 16) ≠ 0 := by decide

theorem test_hyps_UnrecognisedIdentifierIsInvalidCommand :
    State.reset.session = none ∧ "" ≠ "clear_buffer" ∧ "" ≠ "read_pos" ∧ "" ≠ "set_zero" := by decide

theorem test_hyps_CommandBeforeConfigureIsNotConfigured :
    (State.reset.session = none ∧ State.reset.configured = false ∧
        Instr.hostSetZero ∈ [Instr.hostClearBuffer, .hostReadPos, .hostSetZero]) ∧
      ((ready 1).configured = true ∧ step (ready 1) = .next (ready 1)) := ⟨by decide, rfl, rfl⟩

theorem test_hyps_AcceptedCommandOpensItsSession : ReadyForCommand (ready 1) := ⟨rfl, rfl⟩

theorem test_hyps_ConfigureAppliesTheRecord :
    (ready 1).session = none ∧ { c0 with options := 0x03 }.defect = none := by decide

theorem test_hyps_InvalidConfigurationIsRefused :
    State.reset.session = none ∧ { c0 with mosiLine := line 0 }.defect = some .linesNotDistinct ∧
      { c0 with options := 0x04 }.defect = some .reservedOptionBits ∧
      { c0 with options := 0x10 }.defect = some .shortFinalByte := by decide

theorem test_hyps_HostCallWhileBusyIsRefused :
    (flying .rpCmd 0 []).session ≠ none ∧ isHostInstr (.hostConfigure c0) = true := by decide

/-- Both clauses of a match, count 0 and count 1, and a mismatch, on the last allowed transfer. -/
theorem test_hyps_CbSyncCountsAcknowledgements :
    (flying .cbSync 2 [.byte 0xA5]).session = some (sessionIn .cbSync 2) ∧ (sessionIn .cbSync 2).phase = .cbSync ∧
      (sessionIn .cbSync 2).attempts ≠ (flying .cbSync 2 [.byte 0xA5]).maxAttempts ∧
      (flying .cbSync 2 [.byte 0xA5]).nextAnswer = .byte 0xA5 ∧ Inv (flying .cbSync 2 [.byte 0xA5]) ∧
      (0x5A : Byte) ≠ 0xA5 :=
  ⟨rfl, rfl, by decide, rfl, inv_flying _ _ _ (by decide) (by simp), by decide⟩

theorem test_hyps_CbSyncCountsAcknowledgements_countOne :
    Inv { flying .cbSync 1 [.byte 0xA5] with syncCount := 1 } where
  budget_pos := by simp [flying, ready]
  cfg_iff := rfl
  session_configured := fun _ => rfl
  syncing_iff := by simp [flying, sessionIn, phaseCmd]
  sync_le_two := by simp
  sync_in_flight := by
    intro ss hs _
    obtain rfl : sessionIn .cbSync 1 = ss := by simpa [flying] using hs
    simp [sessionIn]
  ready_counted := by simp [flying, phaseCmd]
  session_ok := (inv_flying .cbSync 1 [] (by decide) (by simp)).session_ok

theorem test_hyps_CbSyncStepWrittenOut :
    (flying .cbSync 0 [.byte 0]).session = some (sessionIn .cbSync 0) ∧ (sessionIn .cbSync 0).phase = .cbSync ∧
      (sessionIn .cbSync 0).attempts ≠ (flying .cbSync 0 [.byte 0]).maxAttempts ∧
      (flying .cbSync 0 [.byte 0]).nextAnswer = .byte 0 := by decide

theorem test_hyps_RpCmdSendsReadPosition :
    (flying .rpCmd 0 [.byte 0x10]).session = some (sessionIn .rpCmd 0) ∧ (sessionIn .rpCmd 0).phase = .rpCmd ∧
      (flying .rpCmd 0 [.byte 0x10]).nextAnswer = .byte 0x10 := by decide

theorem test_hyps_RpEchoAwaitsTheEcho :
    (flying .rpEcho 2 [.byte 0x10]).session = some (sessionIn .rpEcho 2) ∧ (sessionIn .rpEcho 2).phase = .rpEcho ∧
      (sessionIn .rpEcho 2).attempts ≠ (flying .rpEcho 2 [.byte 0x10]).maxAttempts ∧
      (flying .rpEcho 2 [.byte 0x10]).nextAnswer = .byte 0x10 := by decide

theorem test_hyps_RpShiftDiscardsOneByte :
    (flying .rpShift 1 [.byte 0xFF]).session = some (sessionIn .rpShift 1) ∧
      (sessionIn .rpShift 1).phase = .rpShift ∧ (flying .rpShift 1 [.byte 0xFF]).nextAnswer = .byte 0xFF := by decide

theorem test_hyps_RpMsbLatchesTheLowNibble :
    (flying .rpMsb 1 [.byte 0xF0]).session = some (sessionIn .rpMsb 1) ∧ (sessionIn .rpMsb 1).phase = .rpMsb ∧
      (flying .rpMsb 1 [.byte 0xF0]).nextAnswer = .byte 0xF0 := by decide

theorem test_hyps_RpLsbDeliversThePosition :
    (flying .rpLsb 1 [.byte 0xFF]).session = some (sessionIn .rpLsb 1) ∧ (sessionIn .rpLsb 1).phase = .rpLsb ∧
      (sessionIn .rpLsb 1).msbNibble = some 0xB ∧ (0xB : Nibble) = (0xFB : Byte).extractLsb' 0 4 ∧
      (flying .rpLsb 1 [.byte 0xFF]).nextAnswer = .byte 0xFF := by decide

theorem test_hyps_RpLsbWithoutANibbleIsRefused :
    { flying .rpLsb 1 [.byte 0xFF] with session := some ⟨.rp, .rpLsb, 4, 1, none, none⟩ }.session =
        some ⟨.rp, .rpLsb, 4, 1, none, none⟩ ∧
      (⟨.rp, .rpLsb, 4, 1, none, none⟩ : Session).phase = .rpLsb ∧
      (⟨.rp, .rpLsb, 4, 1, none, none⟩ : Session).msbNibble = none ∧
      { flying .rpLsb 1 [.byte 0xFF] with session := some ⟨.rp, .rpLsb, 4, 1, none, none⟩ }.nextAnswer =
        .byte 0xFF := by decide

theorem test_hyps_SzCmdSendsSetZero :
    (flying .szCmd 0 [.byte 0x80]).session = some (sessionIn .szCmd 0) ∧ (sessionIn .szCmd 0).phase = .szCmd ∧
      (flying .szCmd 0 [.byte 0x80]).nextAnswer = .byte 0x80 := by decide

theorem test_hyps_SzAckAwaitsTheAcknowledgement :
    (flying .szAck 2 [.byte 0x80]).session = some (sessionIn .szAck 2) ∧ (sessionIn .szAck 2).phase = .szAck ∧
      (sessionIn .szAck 2).attempts ≠ (flying .szAck 2 [.byte 0x80]).maxAttempts ∧
      (flying .szAck 2 [.byte 0x80]).nextAnswer = .byte 0x80 := by decide

theorem test_hyps_WireInstructionOutsideItsPhaseIsRefused :
    isHostInstr (.rxDataLsb 0) = false ∧ State.reset.session = none ∧
      (flying .rpMsb 1 []).session = some (sessionIn .rpMsb 1) ∧
      (sessionIn .rpMsb 1).phase ∉ phasesOf (.rxDataLsb 0) := by decide

theorem test_hyps_BusFaultAbortsTheCommand :
    (flying .szCmd 0 [.busFault]).session = some (sessionIn .szCmd 0) ∧
      budgetSpent (flying .szCmd 0 [.busFault]) (sessionIn .szCmd 0) = false ∧
      (flying .szCmd 0 [.busFault]).nextAnswer = .busFault ∧
      (sessionIn .szCmd 0).phase ∈ phasesOf .txSetZero := by decide

theorem test_hyps_SpentBudgetIsSyncTimeout :
    (flying .cbSync 3 []).session = some (sessionIn .cbSync 3) ∧
      (sessionIn .cbSync 3).phase ∈ [Phase.cbSync, .rpEcho, .szAck] ∧
      (sessionIn .cbSync 3).attempts = (flying .cbSync 3 []).maxAttempts := by decide

theorem test_hyps_StepRunsTheDecodedInstruction :
    decode (.wireTx 0x10) = .ok .txReadPosition ∧ fetch (flying .rpCmd 0 [.byte 0x10]) = some (.wireTx 0x10) ∧
      decode (.wireRx .rpCmd 0x10) = .ok (.rxUninspected 0x10) ∧
      fetchRx (flying .rpCmd 0 [.byte 0x10]) = some (.wireRx .rpCmd 0x10) := by decide

theorem test_hyps_StepRunsTheDecodedInstruction_host :
    decode (.hostCmd "set_zero") = .ok .hostSetZero ∧
      fetch { ready 3 with program := [.command "set_zero"] } = some (.hostCmd "set_zero") := by decide

theorem test_hyps_StepRefusesOnlyInvalidConfigurations : Inv (ready 3) := inv_ready

theorem test_hyps_IdleBlockWaits : (ready 3).session = none ∧ (ready 3).program = [] := by decide

/-- A step with no session, one that finds its budget spent, and one that makes an exchange. -/
theorem test_hyps_ExchangesAreSingleBytesOfPhaseSteps :
    ((ready 3).session = none ∧ step (ready 3) = .next (ready 3)) ∧
      (budgetSpent (flying .szAck 3 []) (sessionIn .szAck 3) = true ∧
        seen phaseNow (step (flying .szAck 3 [])) = some none) ∧
      (budgetSpent (flying .szAck 2 [.busFault]) (sessionIn .szAck 2) = false ∧
        seen State.results (step (flying .szAck 2 [.busFault])) = some [.fault .busFault (some .szAck) 3]) :=
  ⟨⟨rfl, rfl⟩, by decide, by decide⟩

theorem test_hyps_CfgIsWrittenOnlyByConfigure :
    seen State.cfg (step { State.reset with program := [.configure c0] }) = some (some c0) ∧
      State.reset.cfg = none ∧ seen State.cfg (exec (.hostConfigure c0) State.reset) = some (some c0) := by decide

/-- A step that ends a command, one that goes on, one that takes a call. -/
theorem test_hyps_ResultsAreDeliveredOncePerCommand :
    seen State.results (step (flying .rpLsb 1 [.byte 0])) = some [.ok (some .rpLsb) 5 (.position 0xB00)] ∧
      seen State.results (step (flying .rpMsb 1 [.byte 0])) = some [] ∧
      seen State.results (step { State.reset with program := [.command "read_pos"] }) =
        some [.fault .notConfigured none 0] := by decide

theorem test_hyps_PhasesFollowTheTransferTable :
    (flying .rpShift 1 [.byte 0]).session = some (sessionIn .rpShift 1) ∧
      seen (fun t => t.session) (step (flying .rpShift 1 [.byte 0])) =
        some (some { sessionIn .rpShift 1 with phase := .rpMsb, xfers := 3 }) := by decide

theorem test_hyps_ReadyOnlyAfterTwoAcknowledgements :
    seen State.link (step { flying .cbSync 1 [.byte 0xA5] with syncCount := 1 }) = some .ready ∧
      { flying .cbSync 1 [.byte 0xA5] with syncCount := 1 }.link ≠ .ready := by decide

/-- One state meets the hypotheses of the three preservation statements, with a step that ends a command. -/
theorem test_hyps_EveryStepKeeps :
    Inv (flying .rpLsb 1 [.byte 0xFF]) ∧ ResultsLegal (flying .rpLsb 1 [.byte 0xFF]) ∧
      TraceAccounted (flying .rpLsb 1 [.byte 0xFF]) ∧
      seen phaseNow (step (flying .rpLsb 1 [.byte 0xFF])) = some none :=
  ⟨inv_flying _ _ _ (by decide) (by simp), by simp [ResultsLegal, flying, ready, State.reset], rfl, by decide⟩

theorem test_hyps_EveryCommandEnds :
    Inv (flying .szAck 3 []) ∧ (flying .szAck 3 []).session = some (sessionIn .szAck 3) :=
  ⟨inv_flying _ _ _ (by decide) (by simp), rfl⟩

/-- V-CB-5: the double acknowledgement on the last allowed transfer. -/
theorem test_hyps_ClearBufferSucceedsAtTheFirstDoubleAck :
    ReadyForCommand { ready 3 with answers := byteScript [0x00, 0xA5, 0xA5] ++ [.busFault] } ∧
      byteScript [0x00, 0xA5, 0xA5] ++ [.busFault] = byteScript ([0x00] ++ [0xA5, 0xA5]) ++ [.busFault] ∧
      NoDoubleAck ([0x00] ++ [0xA5]) ∧ ([0x00] : List Byte).length + 2 ≤ (ready 3).maxAttempts :=
  ⟨⟨rfl, rfl⟩, rfl, by simp [NoDoubleAck, valueAckIdle], by decide⟩

/-- V-CB-4. -/
theorem test_hyps_ClearBufferTimesOutWithoutDoubleAck :
    ReadyForCommand { ready 3 with answers := byteScript [0xA5, 0x00, 0xA5] } ∧
      byteScript [0xA5, 0x00, 0xA5] = byteScript [0xA5, 0x00, 0xA5] ++ [] ∧ NoDoubleAck [0xA5, 0x00, 0xA5] ∧
      ([0xA5, 0x00, 0xA5] : List Byte).length = (ready 3).maxAttempts :=
  ⟨⟨rfl, rfl⟩, rfl, by simp [NoDoubleAck, valueAckIdle], rfl⟩

/-- V-RP-5: the echo on the last allowed no-op. -/
theorem test_hyps_ReadPosDeliversTheEncodersPosition :
    ReadyForCommand { ready 3 with answers := byteScript [0x00, 0xA5, 0xA5, 0x10, 0x00, 0x01, 0x02] } ∧
      byteScript [0x00, 0xA5, 0xA5, 0x10, 0x00, 0x01, 0x02] =
        byteScript (readAnswers 0x00 [0xA5, 0xA5] 0x00 0x01 0x02) ++ [] ∧
      (∀ b ∈ ([0xA5, 0xA5] : List Byte), b ≠ 0x10) ∧ ([0xA5, 0xA5] : List Byte).length < (ready 3).maxAttempts :=
  ⟨⟨rfl, rfl⟩, rfl, by decide, by decide⟩

/-- V-RP-4. -/
theorem test_hyps_ReadPosTimesOutWithoutEcho :
    ReadyForCommand { ready 3 with answers := byteScript [0x10, 0xA5, 0xA5, 0xA5] } ∧
      byteScript [0x10, 0xA5, 0xA5, 0xA5] = byteScript (0x10 :: [0xA5, 0xA5, 0xA5]) ++ [] ∧
      (∀ b ∈ ([0xA5, 0xA5, 0xA5] : List Byte), b ≠ 0x10) ∧
      ([0xA5, 0xA5, 0xA5] : List Byte).length = (ready 3).maxAttempts :=
  ⟨⟨rfl, rfl⟩, rfl, by decide, rfl⟩

theorem test_hyps_SetZeroDeliversThePowerCycleNotice :
    ReadyForCommand { ready 3 with answers := byteScript [0x80, 0x00, 0xA5, 0x80] } ∧
      byteScript [0x80, 0x00, 0xA5, 0x80] = byteScript (zeroAnswers 0x80 [0x00, 0xA5]) ++ [] ∧
      (∀ b ∈ ([0x00, 0xA5] : List Byte), b ≠ 0x80) ∧ ([0x00, 0xA5] : List Byte).length < (ready 3).maxAttempts :=
  ⟨⟨rfl, rfl⟩, rfl, by decide, by decide⟩

theorem test_hyps_SetZeroTimesOutWithoutAcknowledgement :
    ReadyForCommand { ready 3 with answers := byteScript [0x80, 0x00, 0x00, 0x81] } ∧
      byteScript [0x80, 0x00, 0x00, 0x81] = byteScript (0x80 :: [0x00, 0x00, 0x81]) ++ [] ∧
      (∀ b ∈ ([0x00, 0x00, 0x81] : List Byte), b ≠ 0x80) ∧
      ([0x00, 0x00, 0x81] : List Byte).length = (ready 3).maxAttempts :=
  ⟨⟨rfl, rfl⟩, rfl, by decide, rfl⟩

/-- A result with a position, and one with the power-cycle notice. -/
theorem test_hyps_OutputCodesAreThoseOfTheTables :
    (Result.ok (some .rpLsb) 5 (.position 7)).position ≠ none ∧
      (Result.ok (some .szAck) 2 (.powerCycleRequired true)).powerCycleRequired ≠ none := by decide

end Sys2Proof.Tests
end

/-! PROOFS. The encoded divisor (spec/30_encoding.md R106) and the position decoder (R97, spec/43_read_position.md
R196 to R198): one lemma per function, and the obligations O6 and O8 assembled from them. -/

namespace Sys2Proof

/-! ### The divisor -/

@[simp] theorem divisorOf_zero : divisorOf 0#16 = 65536 := if_pos rfl

theorem divisorOf_of_ne_zero {d : BitVec 16} (hd : d ≠ 0) : divisorOf d = d.toNat := if_neg hd

theorem divisorOf_pos (d : BitVec 16) : 1 ≤ divisorOf d := by
  by_cases hd : d = 0
  · simp [hd]
  · rw [divisorOf_of_ne_zero hd]
    have : d.toNat ≠ 0 := fun h => hd (BitVec.eq_of_toNat_eq h)
    omega

theorem divisorOf_le (d : BitVec 16) : divisorOf d ≤ 65536 := by
  by_cases hd : d = 0
  · simp [hd]
  · rw [divisorOf_of_ne_zero hd]
    exact d.isLt.le

/-- Settles O6: the two branches of the decoding, and the range they share. -/
theorem divisorEncodingZeroMeans65536 : Obligations.DivisorEncodingZeroMeans65536 := by
  intro d
  exact ⟨fun hd => hd ▸ divisorOf_zero, divisorOf_of_ne_zero, divisorOf_pos d, divisorOf_le d⟩

/-! ### The nibble that RP_MSB latches -/

/-- Masking with 0x0F is reduction modulo 16. -/
theorem and_nibbleMask_toNat (b : Byte) : (b &&& nibbleMask).toNat = b.toNat % 16 :=
  Nat.and_two_pow_sub_one_eq_mod b.toNat 4

@[simp] theorem latchNibble_toNat (b : Byte) : (latchNibble b).toNat = b.toNat % 16 := by
  rw [latchNibble, BitVec.toNat_setWidth, and_nibbleMask_toNat]
  exact Nat.mod_mod _ _

/-- The mask of R196 keeps exactly the field of R95. -/
theorem latchNibble_eq_positionNibble (b : Byte) : latchNibble b = positionNibble b :=
  BitVec.eq_of_toNat_eq (by simp [positionNibble])

/-- Latching in four bits loses nothing of the masked byte: widened again, it is the masked byte widened. -/
theorem latchNibble_setWidth (b : Byte) :
    (latchNibble b).setWidth positionBits = (b &&& nibbleMask).setWidth positionBits :=
  BitVec.eq_of_toNat_eq (by
    rw [BitVec.toNat_setWidth, BitVec.toNat_setWidth, latchNibble_toNat, and_nibbleMask_toNat])

/-! ### The position of a nibble and a byte -/

/-- Shifting by a byte and OR-ing the byte in is concatenation. -/
theorem assemblePosition_eq_append (m : Nibble) (l : Byte) : assemblePosition m l = m ++ l := by
  rw [BitVec.append_def, BitVec.shiftLeftZeroExtend_eq, BitVec.setWidth'_eq]
  rfl

/-- The shifted nibble is a multiple of 256 and the byte lies below 256, so their OR is their sum. -/
theorem assemblePosition_toNat (m : Nibble) (l : Byte) :
    (assemblePosition m l).toNat = 256 * m.toNat + l.toNat :=
  calc (assemblePosition m l).toNat
      = m.toNat <<< 8 ||| l.toNat := by rw [assemblePosition_eq_append, BitVec.toNat_append]
    _ = m.toNat <<< 8 + l.toNat := (Nat.shiftLeft_add_eq_or_of_lt l.isLt _).symm
    _ = 256 * m.toNat + l.toNat := by rw [Nat.shiftLeft_eq, Nat.mul_comm]

/-! ### The position of the two raw bytes -/

theorem decodePosition_eq_append (b4 b5 : Byte) : decodePosition b4 b5 = positionNibble b4 ++ b5 := by
  rw [decodePosition, assemblePosition_eq_append, latchNibble_eq_positionNibble]

theorem decodePosition_eq_shift_or (b4 b5 : Byte) :
    decodePosition b4 b5 = ((b4 &&& nibbleMask).setWidth positionBits <<< 8) ||| b5.setWidth positionBits := by
  rw [decodePosition, assemblePosition, latchNibble_setWidth]

theorem decodePosition_toNat (b4 b5 : Byte) :
    (decodePosition b4 b5).toNat = 256 * (b4.toNat % 16) + b5.toNat := by
  rw [decodePosition, assemblePosition_toNat, latchNibble_toNat]

/-- Settles O8: the three readings of the decoder, and the range of twelve bits. -/
theorem positionIsNibbleThenByte : Obligations.PositionIsNibbleThenByte := by
  intro b4 b5
  exact ⟨decodePosition_eq_shift_or b4 b5, decodePosition_eq_append b4 b5, decodePosition_toNat b4 b5,
    Nat.le_of_lt_succ (decodePosition b4 b5).isLt⟩

end Sys2Proof

/-! PROOFS. The sync detector (spec/42_sync_detector.md R173, R174): the counter, the step of CB_SYNC that receives a
byte, and the obligation O16 assembled from them. -/

namespace Sys2Proof.Machine

/-! ### The SyncCounter -/

@[simp] theorem nextSyncCount_ackIdle (n : Nat) : nextSyncCount n valueAckIdle = n + 1 := rfl

theorem nextSyncCount_of_ne {b : Byte} (hb : b ≠ valueAckIdle) (n : Nat) : nextSyncCount n b = 0 := by
  simp [nextSyncCount, isAckIdle, hb]

/-- Whether the command ends or goes on, the counter is left at its new count. -/
@[simp] theorem updateCbSync_syncCount (s : State) (ss : Session) (b : Byte) :
    (updateCbSync s ss b).syncCount = nextSyncCount s.syncCount b := by
  rcases updateCbSync_cases s ss b with ⟨hcount, hupd⟩ | ⟨-, hupd⟩
  · rw [hupd, hcount]
  · rw [hupd]

/-- A mismatch cannot reach the threshold, so the loop goes on with the counter cleared (R174). -/
theorem updateCbSync_of_ne {b : Byte} (hb : b ≠ valueAckIdle) (s : State) (ss : Session) :
    updateCbSync s ss b = { s with syncCount := 0, session := some ss } := by
  have hzero : nextSyncCount s.syncCount b = 0 := nextSyncCount_of_ne hb s.syncCount
  rcases updateCbSync_cases s ss b with ⟨hcount, -⟩ | ⟨-, hupd⟩
  · omega
  · rw [hupd, hzero]

/-- Under the invariant a session in CB_SYNC has not yet counted to two (R39 c). -/
theorem Inv.syncCount_le_one {s : State} (hinv : Inv s) {ss : Session} (hs : s.session = some ss)
    (hp : ss.phase = .cbSync) : s.syncCount ≤ 1 := by
  have hcmd : ss.cmd = .cb := by rw [← (hinv.session_ok ss hs).phase_of_cmd, hp]; rfl
  exact (hinv.sync_in_flight ss hs hcmd).1

/-! ### The phase step that receives a byte -/

theorem budgetSpent_eq_false {s : State} {ss : Session} (ha : ss.attempts ≠ s.maxAttempts) :
    budgetSpent s ss = false := by
  simp [budgetSpent, ha]

/-- A byte received in a handshake loop counts as an exchange and as an attempt (R146). -/
theorem Session.counted_of_isLoop {ss : Session} (hl : isLoop ss.phase = true) :
    ss.counted = { ss with xfers := ss.xfers + 1, attempts := ss.attempts + 1 } := by
  simp [Session.counted, hl]

/-- In CB_SYNC with budget left, a received byte is counted and the rule of the sync detector applied to it. -/
theorem phaseStep_cbSync {s : State} {ss : Session} (hp : ss.phase = .cbSync) (ha : ss.attempts ≠ s.maxAttempts)
    (b : Byte) : phaseStep s ss (.byte b) = .next (updateCbSync (s.afterXfer opcodeNoOp) ss.counted b) := by
  rw [phaseStep_byte (budgetSpent_eq_false ha), hp]
  rfl

/-- The received row ACK_IDLE is the phase step of CB_SYNC. -/
theorem exec_rxAckIdle_of_phase {s : State} {ss : Session} (hs : s.session = some ss) (hp : ss.phase = .cbSync)
    (b : Byte) : exec (.rxAckIdle b) s = phaseStep s ss (.byte b) :=
  rxStep_of_session hs (by simp [hp]) b

/-- The transmitted row NO_OP is the phase step of a phase that transmits it, with the transport's answer. -/
theorem exec_txNoOp_of_phase {s : State} {ss : Session} (hs : s.session = some ss)
    (hp : ss.phase ∈ phasesOf .txNoOp) : exec .txNoOp s = phaseStep s ss s.nextAnswer := by
  have htx : txByte ss.phase = opcodeNoOp := (txByte_eq_noOp_iff ss.phase).2 hp
  rw [← txStep_of_session hs, htx]
  rfl

/-- Settles O16: both rows are the one phase step of CB_SYNC, whose update leaves the new count and, on a mismatch, the
session in its loop; the invariant bounds the count before. -/
theorem cbSyncCountsAcknowledgements : Obligations.CbSyncCountsAcknowledgements := by
  intro s ss b hs hp ha
  have hstep := phaseStep_cbSync hp ha b
  have hcount : b = 0xA5 →
      (updateCbSync (s.afterXfer opcodeNoOp) ss.counted b).syncCount = s.syncCount + 1 := by
    rintro rfl
    exact updateCbSync_syncCount _ _ _
  refine ⟨_, ?rx, ?tx, hcount, ?range, ?mismatch⟩
  case rx => rw [exec_rxAckIdle_of_phase hs hp, hstep]
  case tx =>
    intro hanswer
    rw [exec_txNoOp_of_phase hs (by simp [hp, phasesOf]), hanswer, hstep]
  case range =>
    intro hb hinv
    have hle : s.syncCount ≤ 1 := hinv.syncCount_le_one hs hp
    have hsucc := hcount hb
    omega
  case mismatch =>
    intro hb
    have hloop : isLoop ss.phase = true := by rw [hp]; rfl
    rw [updateCbSync_of_ne hb, Session.counted_of_isLoop hloop]
    exact ⟨rfl, rfl, rfl⟩

end Sys2Proof.Machine

/-! PROOFS. The fibres and the range of the position decoder (spec/43_read_position.md R199), and the obligation O9
assembled from them. -/

namespace Sys2Proof

/-! ### The nibble of a written-out byte -/

/-- Of a byte put together from two nibbles the lower one is latched, whatever the upper one is (R196). -/
@[simp] theorem latchNibble_dataMsbByte (x h : Nibble) : latchNibble (dataMsbByte x h) = h := by
  rw [latchNibble_eq_positionNibble]
  exact BitVec.extractLsb'_append_eq_right

/-! ### The shift, the OR and the sum -/

theorem assemblePosition_toNat_eq_or (m : Nibble) (l : Byte) :
    (assemblePosition m l).toNat = m.toNat <<< 8 ||| l.toNat := by
  rw [assemblePosition_eq_append, BitVec.toNat_append]

theorem shiftLeft_or_eq_sum (m : Nibble) (l : Byte) : m.toNat <<< 8 ||| l.toNat = 256 * m.toNat + l.toNat := by
  rw [← assemblePosition_toNat_eq_or, assemblePosition_toNat]

/-- A position is at most 4095 (R199). -/
theorem position_toNat_le (p : Position) : p.toNat ≤ 4095 := Nat.le_of_lt_succ p.isLt

/-! ### The decoder is onto, and its fibres -/

/-- A position is the decoder's value of its quotient and remainder by 256. -/
theorem decodePosition_div_mod (p : Position) :
    decodePosition (BitVec.ofNat 8 (p.toNat / 256)) (BitVec.ofNat 8 (p.toNat % 256)) = p := by
  have hle : p.toNat ≤ 4095 := position_toNat_le p
  apply BitVec.eq_of_toNat_eq
  rw [decodePosition_toNat, BitVec.toNat_ofNat, BitVec.toNat_ofNat]
  omega

/-- The low byte and the low nibble of the first byte are the two digits of the position in base 256, so the decoder
forgets the high nibble of the first byte and nothing else. -/
theorem decodePosition_eq_iff (b4 b5 c4 c5 : Byte) :
    decodePosition b4 b5 = decodePosition c4 c5 ↔ b4.toNat % 16 = c4.toNat % 16 ∧ b5 = c5 := by
  have hb5 : b5.toNat < 256 := b5.isLt
  have hc5 : c5.toNat < 256 := c5.isLt
  rw [← BitVec.toNat_inj, ← BitVec.toNat_inj, decodePosition_toNat, decodePosition_toNat]
  omega

/-- Settles O9: the decoder is onto with its fibres, and the OR of a shifted nibble and a byte is their sum. -/
theorem positionDecoderIsOntoAndSixteenToOne : Obligations.PositionDecoderIsOntoAndSixteenToOne := by
  refine ⟨fun p => ⟨_, _, decodePosition_div_mod p⟩, decodePosition_eq_iff, fun m l => ?assembled, ?least, ?greatest⟩
  case assembled =>
    exact ⟨assemblePosition_toNat_eq_or m l, shiftLeft_or_eq_sum m l, position_toNat_le (assemblePosition m l)⟩
  case least => decide
  case greatest => decide

end Sys2Proof

/-! PROOFS. The five phases of read_pos (spec/43_read_position.md R192 to R198): the whole next state of each phase step
that receives a byte, and the obligations O18 to O22 assembled from them. -/

namespace Sys2Proof.Machine

/-! ### The phase step that receives a byte, in and outside the handshake loops -/

/-- Outside the handshake loops no budget is spent (R148). -/
theorem budgetSpent_of_not_isLoop {ss : Session} (hl : isLoop ss.phase = false) (s : State) :
    budgetSpent s ss = false := by
  simp [budgetSpent, hl]

/-- Outside the handshake loops a received byte counts as an exchange alone (R146). -/
theorem Session.counted_of_not_isLoop {ss : Session} (hl : isLoop ss.phase = false) :
    ss.counted = { ss with xfers := ss.xfers + 1 } := by
  simp [Session.counted, hl]

theorem phaseStep_byte_of_not_isLoop {ss : Session} {p : Phase} (hp : ss.phase = p) (hl : isLoop p = false)
    (s : State) (b : Byte) :
    phaseStep s ss (.byte b) = update p (s.afterXfer (txByte p)) { ss with xfers := ss.xfers + 1 } b := by
  subst hp
  rw [phaseStep_byte (budgetSpent_of_not_isLoop hl s), Session.counted_of_not_isLoop hl]

theorem phaseStep_byte_of_isLoop {s : State} {ss : Session} {p : Phase} (hp : ss.phase = p) (hl : isLoop p = true)
    (ha : ss.attempts ≠ s.maxAttempts) (b : Byte) :
    phaseStep s ss (.byte b) = update p (s.afterXfer (txByte p))
      { ss with xfers := ss.xfers + 1, attempts := ss.attempts + 1 } b := by
  subst hp
  rw [phaseStep_byte (budgetSpent_eq_false ha), Session.counted_of_isLoop hl]

/-! ### The two rows of a phase -/

/-- The transmitted row READ_POSITION is the phase step of RP_CMD, with the transport's answer. -/
theorem exec_txReadPosition_of_phase {s : State} {ss : Session} (hs : s.session = some ss)
    (hp : ss.phase ∈ phasesOf .txReadPosition) : exec .txReadPosition s = phaseStep s ss s.nextAnswer := by
  have htx : txByte ss.phase = opcodeReadPosition := (txByte_eq_readPosition_iff ss.phase).2 hp
  rw [← txStep_of_session hs, htx]
  rfl

/-- The received row of RP_MSB is its phase step, answered with the two nibbles put together. -/
theorem exec_rxDataMsb_of_phase {s : State} {ss : Session} (hs : s.session = some ss) (hp : ss.phase = .rpMsb)
    (x h : Nibble) : exec (.rxDataMsb x h) s = phaseStep s ss (.byte (dataMsbByte x h)) :=
  rxStep_of_session hs (by simp [hp]) (dataMsbByte x h)

/-- Where a transmitted row is the phase step with the transport's answer, it and the received row of the phase lead to
the same next state: they are two views of one exchange. -/
theorem rows_of_phaseStep {s t : State} {ss : Session} {tx : Instr} {b : Byte} (hs : s.session = some ss)
    (htx : exec tx s = phaseStep s ss s.nextAnswer) (hstep : phaseStep s ss (.byte b) = .next t) :
    exec (decodeRx ss.phase b) s = .next t ∧ (s.nextAnswer = .byte b → exec tx s = .next t) := by
  refine ⟨?rx, fun hanswer => ?tx⟩
  case rx => rw [exec_decodeRx hs, hstep]
  case tx => rw [htx, hanswer, hstep]

/-! ### RP_CMD -/

/-- RP_CMD sends READ_POSITION and begins the echo wait with a full budget (R192). -/
theorem phaseStep_rpCmd {ss : Session} (hp : ss.phase = .rpCmd) (s : State) (b : Byte) :
    phaseStep s ss (.byte b) = .next { s.afterXfer opcodeReadPosition with
      session := some { ss with phase := .rpEcho, xfers := ss.xfers + 1, attempts := 0 } } := by
  calc phaseStep s ss (.byte b)
      = .next (updateRpCmd (s.afterXfer opcodeReadPosition) { ss with xfers := ss.xfers + 1 } b) :=
        phaseStep_byte_of_not_isLoop hp rfl s b
    _ = _ := by rw [updateRpCmd_eq]

/-- Settles O18: the phase step of RP_CMD, seen from its two rows. -/
theorem rpCmdSendsReadPosition : Obligations.RpCmdSendsReadPosition := by
  intro s ss b hs hp
  have hrows := rows_of_phaseStep hs (exec_txReadPosition_of_phase hs (by simp [hp, phasesOf]))
    (phaseStep_rpCmd hp s b)
  rwa [hp] at hrows

/-! ### RP_ECHO -/

/-- RP_ECHO with budget left sends a no-op and leaves the loop on the echo alone (R193). -/
theorem phaseStep_rpEcho {s : State} {ss : Session} (hp : ss.phase = .rpEcho) (ha : ss.attempts ≠ s.maxAttempts)
    (b : Byte) :
    phaseStep s ss (.byte b) = .next { s.afterXfer opcodeNoOp with
      session := some { ss with
        phase := if b = valueEchoRead then .rpShift else .rpEcho,
        xfers := ss.xfers + 1, attempts := ss.attempts + 1 } } := by
  calc phaseStep s ss (.byte b)
      = .next (updateRpEcho (s.afterXfer opcodeNoOp)
          { ss with xfers := ss.xfers + 1, attempts := ss.attempts + 1 } b) :=
        phaseStep_byte_of_isLoop hp rfl ha b
    _ = _ := by
      rcases updateRpEcho_cases (s.afterXfer opcodeNoOp)
        { ss with xfers := ss.xfers + 1, attempts := ss.attempts + 1 } b with ⟨hecho, hupd⟩ | ⟨hother, hupd⟩
      · rw [hupd, if_pos hecho]
      · rw [hupd, if_neg hother, hp]

/-- Settles O19: the phase step of RP_ECHO, seen from its two rows. -/
theorem rpEchoAwaitsTheEcho : Obligations.RpEchoAwaitsTheEcho := by
  intro s ss b hs hp ha
  have hrows := rows_of_phaseStep hs (exec_txNoOp_of_phase hs (by simp [hp, phasesOf])) (phaseStep_rpEcho hp ha b)
  rwa [hp] at hrows

/-! ### RP_SHIFT -/

/-- RP_SHIFT sends a no-op and discards the byte (R195). -/
theorem phaseStep_rpShift {ss : Session} (hp : ss.phase = .rpShift) (s : State) (b : Byte) :
    phaseStep s ss (.byte b) = .next { s.afterXfer opcodeNoOp with
      session := some { ss with phase := .rpMsb, xfers := ss.xfers + 1 } } := by
  calc phaseStep s ss (.byte b)
      = .next (updateRpShift (s.afterXfer opcodeNoOp) { ss with xfers := ss.xfers + 1 } b) :=
        phaseStep_byte_of_not_isLoop hp rfl s b
    _ = _ := by rw [updateRpShift_eq]

/-- Settles O20: the phase step of RP_SHIFT, seen from its two rows. -/
theorem rpShiftDiscardsOneByte : Obligations.RpShiftDiscardsOneByte := by
  intro s ss b hs hp
  have hrows := rows_of_phaseStep hs (exec_txNoOp_of_phase hs (by simp [hp, phasesOf])) (phaseStep_rpShift hp s b)
  rwa [hp] at hrows

/-! ### RP_MSB -/

/-- RP_MSB sends a no-op and latches the low nibble of the byte (R196). -/
theorem phaseStep_rpMsb {ss : Session} (hp : ss.phase = .rpMsb) (s : State) (b : Byte) :
    phaseStep s ss (.byte b) = .next { s.afterXfer opcodeNoOp with
      session := some { ss with
        phase := .rpLsb, xfers := ss.xfers + 1, msbNibble := some (latchNibble b) } } := by
  calc phaseStep s ss (.byte b)
      = .next (updateRpMsb (s.afterXfer opcodeNoOp) { ss with xfers := ss.xfers + 1 } b) :=
        phaseStep_byte_of_not_isLoop hp rfl s b
    _ = _ := by rw [updateRpMsb_eq]

/-- Settles O21: the phase step of RP_MSB; the mask drops the upper nibble of the received row and is bits 3 to 0 of the
byte that answers the transmitted row. -/
theorem rpMsbLatchesTheLowNibble : Obligations.RpMsbLatchesTheLowNibble := by
  intro s ss hs hp
  refine ⟨fun x h => ?rx, fun b hanswer => ?tx⟩
  case rx =>
    rw [exec_rxDataMsb_of_phase hs hp, phaseStep_rpMsb hp, latchNibble_dataMsbByte]
    rfl
  case tx =>
    rw [exec_txNoOp_of_phase hs (by simp [hp, phasesOf]), hanswer, phaseStep_rpMsb hp, latchNibble_eq_positionNibble]
    rfl

/-! ### RP_LSB -/

/-- RP_LSB with a latched nibble sends a no-op and ends the command with the position (R197, R198). -/
theorem phaseStep_rpLsb {ss : Session} {m : Nibble} (hp : ss.phase = .rpLsb) (hm : ss.msbNibble = some m)
    (s : State) (l : Byte) :
    phaseStep s ss (.byte l) = .next { s.afterXfer opcodeNoOp with
      session := none,
      results := s.results ++ [.ok (some .rpLsb) (ss.xfers + 1) (.position (assemblePosition m l))] } := by
  calc phaseStep s ss (.byte l)
      = updateRpLsb (s.afterXfer opcodeNoOp) { ss with xfers := ss.xfers + 1 } l :=
        phaseStep_byte_of_not_isLoop hp rfl s l
    _ = _ := by rw [updateRpLsb_eq _ { ss with xfers := ss.xfers + 1 } l m hm, hp, State.afterXfer_results]

/-- Settles O22: the phase step of RP_LSB, seen from its two rows, and the readings of the position it delivers. -/
theorem rpLsbDeliversThePosition : Obligations.RpLsbDeliversThePosition := by
  intro s ss m l hs hp hm
  have hrows := rows_of_phaseStep hs (exec_txNoOp_of_phase hs (by simp [hp, phasesOf])) (phaseStep_rpLsb hp hm s l)
  rw [hp] at hrows
  refine ⟨assemblePosition_toNat m l, assemblePosition_eq_append m l, fun b4 hb4 => ?decoded, hrows⟩
  case decoded =>
    rw [decodePosition, latchNibble_eq_positionNibble, positionNibble, ← hb4]
    rfl

end Sys2Proof.Machine

/-! PROOFS. The fault kind NotConfigured (spec/60_exceptions.md R241): what a phase step and a dispatch deliver once the
block is configured, and the obligation O11 assembled from them. -/

namespace Sys2Proof.Machine

/-! ### Delivering anything but NotConfigured -/

/-- `new` is the results `old` with nothing delivered after them, or one result that is not NotConfigured. -/
inductive DeliversOther (old : List Result) : List Result → Prop where
  | nothing : DeliversOther old old
  | ok (p : Option Phase) (n : Nat) (payload : Payload) : DeliversOther old (old ++ [.ok p n payload])
  | fault (k : FaultKind) (p : Option Phase) (n : Nat) (hk : k ≠ .notConfigured) :
      DeliversOther old (old ++ [.fault k p n])

theorem DeliversOther.ne_notConfigured {old new : List Result} (h : DeliversOther old new) (p : Option Phase)
    (n : Nat) : new ≠ old ++ [.fault .notConfigured p n] := by
  cases h with
  | nothing => simp
  | ok => simp
  | fault k _ _ hk => simp [hk]

/-! ### The phase step -/

/-- No rule of a phase writes configured, and a result it delivers is a success. -/
theorem update_delivers {p : Phase} {s t : State} {ss : Session} {b : Byte} (h : update p s ss b = .next t) :
    t.configured = s.configured ∧ DeliversOther s.results t.results := by
  cases p with
  | cbSync =>
    obtain rfl : updateCbSync s ss b = t := Host.Outcome.next.inj h
    rcases updateCbSync_cases s ss b with ⟨-, hupd⟩ | ⟨-, hupd⟩ <;> rw [hupd]
    · exact ⟨rfl, .ok _ _ _⟩
    · exact ⟨rfl, .nothing⟩
  | rpEcho =>
    obtain rfl : updateRpEcho s ss b = t := Host.Outcome.next.inj h
    rcases updateRpEcho_cases s ss b with ⟨-, hupd⟩ | ⟨-, hupd⟩ <;> rw [hupd] <;> exact ⟨rfl, .nothing⟩
  | rpLsb =>
    obtain ⟨m, -, rfl⟩ := updateRpLsb_next h
    exact ⟨rfl, .ok _ _ _⟩
  | szAck =>
    obtain rfl : updateSzAck s ss b = t := Host.Outcome.next.inj h
    rcases updateSzAck_cases s ss b with ⟨-, hupd⟩ | ⟨-, hupd⟩ <;> rw [hupd]
    · exact ⟨rfl, .ok _ _ _⟩
    · exact ⟨rfl, .nothing⟩
  | rpCmd | rpShift | rpMsb | szCmd =>
    cases h
    exact ⟨rfl, .nothing⟩

/-- A phase step leaves configured as it is, and the faults it raises are BusFault and SyncTimeout. -/
theorem phaseStep_delivers {s t : State} {ss : Session} {a : Answer} (h : phaseStep s ss a = .next t) :
    t.configured = s.configured ∧ DeliversOther s.results t.results := by
  rcases phaseStep_cases s ss a with ⟨-, hstep⟩ | ⟨-, -, hstep⟩ | ⟨b, -, -, hstep⟩ <;> rw [hstep] at h
  · cases h
    exact ⟨rfl, .fault .syncTimeout _ _ (by decide)⟩
  · cases h
    exact ⟨rfl, .fault .busFault _ _ (by decide)⟩
  · exact update_delivers (s := s.afterXfer (txByte ss.phase)) h

/-! ### Dispatch and the step in a configured block -/

@[simp] theorem beginCommand_configured (c : Cmd) (s : State) : (beginCommand c s).configured = s.configured := by
  cases c <;> rfl

@[simp] theorem beginCommand_results (c : Cmd) (s : State) : (beginCommand c s).results = s.results := by
  cases c <;> rfl

/-- In a configured block the test of configured passes, so that a dispatch can raise InvalidCommand alone. -/
theorem dispatch_delivers {c : Option Cmd} {s t : State} (hc : s.configured = true) (h : dispatch c s = .next t) :
    t.configured = true ∧ DeliversOther s.results t.results := by
  obtain ⟨-, ⟨-, rfl⟩ | ⟨_, -, hnot, -⟩ | ⟨c', -, -, rfl⟩⟩ := dispatch_next h
  · exact ⟨hc, .fault .invalidCommand _ _ (by decide)⟩
  · simp [hc] at hnot
  · simp [hc, DeliversOther.nothing]

/-- A configured block stays configured and delivers no NotConfigured (R21, R241). -/
theorem step_delivers {s t : State} (hc : s.configured = true) (h : step s = .next t) :
    t.configured = true ∧ DeliversOther s.results t.results := by
  rcases step_next h with ⟨ss, -, hphase⟩ | ⟨-, -, rfl⟩ | ⟨id, cs, -, -, hdispatch⟩ | ⟨c, cs, -, -, -, rfl⟩
  · obtain ⟨hconf, hres⟩ := phaseStep_delivers hphase
    exact ⟨hconf.trans hc, hres⟩
  · exact ⟨hc, .nothing⟩
  · exact dispatch_delivers hc hdispatch
  · exact ⟨rfl, .ok _ _ _⟩

/-! ### A command before configure -/

/-- Each of the three recognised commands is the dispatch of its command. -/
theorem exec_recognised {i : Instr} (hi : i ∈ [Instr.hostClearBuffer, .hostReadPos, .hostSetZero]) (s : State) :
    ∃ c, exec i s = dispatch (some c) s := by
  simp only [List.mem_cons, List.not_mem_nil, or_false] at hi
  rcases hi with rfl | rfl | rfl
  · exact ⟨.cb, rfl⟩
  · exact ⟨.rp, rfl⟩
  · exact ⟨.sz, rfl⟩

/-- Settles O11: before configure the dispatch of the command raises the fault; in a configured block no step of the
four kinds delivers it. -/
theorem commandBeforeConfigureIsNotConfigured : Obligations.CommandBeforeConfigureIsNotConfigured := by
  refine ⟨fun s hs hc i hi => ?before, fun s t hc hstep => ?after⟩
  case before =>
    obtain ⟨c, hexec⟩ := exec_recognised hi s
    rw [hexec, dispatch_notConfigured hs hc c]
    rfl
  case after =>
    obtain ⟨hconf, hres⟩ := step_delivers hc hstep
    exact ⟨hconf, hres.ne_notConfigured⟩

end Sys2Proof.Machine

/-! PROOFS. The encodings (spec/30_encoding.md R91, R94 to R98, R104 to R108): what decoding says of each kind of frame,
and the obligations O1 to O4 and O7 assembled from it. -/

namespace Sys2Proof

/-! ### The two fields of a DATA_MSB byte -/

@[simp] theorem ignoredNibble_dataMsbByte (x h : Nibble) : ignoredNibble (dataMsbByte x h) = x :=
  BitVec.extractLsb'_append_eq_left

@[simp] theorem positionNibble_dataMsbByte (x h : Nibble) : positionNibble (dataMsbByte x h) = h :=
  BitVec.extractLsb'_append_eq_right

@[simp] theorem dataMsbByte_fields (b : Byte) : dataMsbByte (ignoredNibble b) (positionNibble b) = b := by
  revert b
  decide

/-! ### Transmitted bytes -/

theorem decodeTx_eq_ok_iff (b : Byte) (i : Instr) :
    decodeTx b = .ok i ↔ b = opcodeNoOp ∧ i = .txNoOp ∨ b = opcodeReadPosition ∧ i = .txReadPosition ∨
      b = opcodeSetZero ∧ i = .txSetZero := by
  unfold decodeTx
  split_ifs with hnoOp hread hzero
  · subst hnoOp; simp [opcodeNoOp, opcodeReadPosition, opcodeSetZero, eq_comm]
  · subst hread; simp [opcodeNoOp, opcodeReadPosition, opcodeSetZero, eq_comm]
  · subst hzero; simp [opcodeNoOp, opcodeReadPosition, opcodeSetZero, eq_comm]
  · simp [hnoOp, hread, hzero]

/-- The bytes never transmitted are those outside the three opcodes (R93). -/
theorem decodeTx_eq_error_iff (b : Byte) :
    (∃ e, decodeTx b = .error e) ↔ b ≠ opcodeNoOp ∧ b ≠ opcodeReadPosition ∧ b ≠ opcodeSetZero := by
  unfold decodeTx
  split_ifs with hnoOp hread hzero <;> simp [*]

/-! ### Received bytes -/

/-- Whatever phase receives a byte, the frame is an encoding of the instruction read from it (R94). -/
theorem wireRx_mem_encodings (p : Phase) (b : Byte) : Frame.wireRx p b ∈ encodings (decodeRx p b) := by
  cases p <;> simp [decodeRx, encodings]

theorem decodeRx_wellFormed (p : Phase) (b : Byte) : (decodeRx p b).wellFormed = true := by
  cases p <;> rfl

/-! ### Identifiers -/

@[simp] theorem recognise_eq_cb_iff (id : String) : recognise id = some .cb ↔ id = "clear_buffer" := by
  unfold recognise
  split_ifs with hcb hrp hsz <;> simp [hcb]

@[simp] theorem recognise_eq_rp_iff (id : String) : recognise id = some .rp ↔ id = "read_pos" := by
  unfold recognise
  split_ifs with hcb hrp hsz
  · simp [hcb]
  all_goals simp [hrp]

@[simp] theorem recognise_eq_sz_iff (id : String) : recognise id = some .sz ↔ id = "set_zero" := by
  unfold recognise
  split_ifs with hcb hrp hsz
  · simp [hcb]
  · simp [hrp]
  all_goals simp [hsz]

theorem recognise_eq_none_iff (id : String) :
    recognise id = none ↔ id ≠ "clear_buffer" ∧ id ≠ "read_pos" ∧ id ≠ "set_zero" := by
  unfold recognise
  split_ifs with hcb hrp hsz <;> simp [*]

/-- The four classes of identifiers (R98). -/
theorem decodeHost_cases (id : String) :
    (id = "clear_buffer" ∧ decodeHost id = .hostClearBuffer) ∨ (id = "read_pos" ∧ decodeHost id = .hostReadPos) ∨
      (id = "set_zero" ∧ decodeHost id = .hostSetZero) ∨
      (recognise id = none ∧ decodeHost id = .hostUnrecognised id) := by
  unfold decodeHost
  cases hid : recognise id with
  | none => simp
  | some c => cases c <;> simp_all

theorem decodeHost_of_recognise_eq_none {id : String} (hid : recognise id = none) :
    decodeHost id = .hostUnrecognised id := by
  simp [decodeHost, hid]

theorem decodeHost_wellFormed (id : String) : (decodeHost id).wellFormed = true := by
  rcases decodeHost_cases id with ⟨-, h⟩ | ⟨-, h⟩ | ⟨-, h⟩ | ⟨hid, h⟩ <;> rw [h]
  case inr.inr.inr => simp [Instr.wellFormed, hid]
  all_goals rfl

theorem hostCmd_mem_encodings (id : String) : Frame.hostCmd id ∈ encodings (decodeHost id) := by
  rcases decodeHost_cases id with ⟨hid, h⟩ | ⟨hid, h⟩ | ⟨hid, h⟩ | ⟨-, h⟩ <;> rw [h]
  case inr.inr.inr => simp [encodings]
  all_goals simp [encodings, hid]

/-! ### Configurations -/

theorem decodeConfig_eq_ok_iff (c : BusConfiguration) (i : Instr) :
    decodeConfig c = .ok i ↔ c.defect = none ∧ i = .hostConfigure c := by
  unfold decodeConfig
  cases hd : c.defect <;> simp [eq_comm]

theorem decodeConfig_eq_error_iff (c : BusConfiguration) : (∃ e, decodeConfig c = .error e) ↔ c.defect ≠ none := by
  unfold decodeConfig
  cases hd : c.defect <;> simp

theorem linesDistinct_iff (c : BusConfiguration) :
    c.linesDistinct = true ↔ [c.csLine, c.clkLine, c.misoLine, c.mosiLine].Nodup := by
  simp only [BusConfiguration.linesDistinct, Bool.and_eq_true, bne_iff_ne, ne_eq, List.nodup_cons, List.mem_cons,
    List.not_mem_nil, or_false, not_or, not_false_eq_true, List.nodup_nil, and_self, and_true]
  tauto

/-- The bits that a valid options field must have clear are those above bit 1 (R105, R129). -/
theorem optionBits_clear_iff (o : BitVec 8) : reservedBits o = 0 ∧ finalBits o = 0 ↔ o.toNat < 4 := by
  revert o
  decide

theorem defect_eq_none_iff (c : BusConfiguration) :
    c.defect = none ↔ c.linesDistinct = true ∧ reservedBits c.options = 0 ∧ finalBits c.options = 0 := by
  unfold BusConfiguration.defect
  split_ifs with hlines hreserved hfinal <;> simp_all

/-! ### The obligations -/

theorem encode_mem_encodings (i : Instr) : encode i ∈ encodings i := by
  cases i <;> simp [encode, encodings]

/-- Each row decodes from its frames; the operands come back by the laws of its format. -/
theorem decode_of_mem_encodings {i : Instr} (hwf : i.wellFormed = true) {f : Frame} (hf : f ∈ encodings i) :
    decode f = .ok i := by
  cases i with
  | rxUninspected x =>
    simp only [encodings, List.mem_cons, List.not_mem_nil, or_false] at hf
    rcases hf with rfl | rfl | rfl <;> rfl
  | rxDataMsb x h =>
    obtain rfl := List.mem_singleton.1 hf
    simp [decode, decodeRx]
  | hostUnrecognised id =>
    obtain rfl := List.mem_singleton.1 hf
    have hid : recognise id = none := Option.isNone_iff_eq_none.1 hwf
    rw [decode, decodeHost_of_recognise_eq_none hid]
  | hostConfigure c =>
    obtain rfl := List.mem_singleton.1 hf
    exact (decodeConfig_eq_ok_iff c _).2 ⟨Option.isNone_iff_eq_none.1 hwf, rfl⟩
  | _ =>
    obtain rfl := List.mem_singleton.1 hf
    rfl

/-- Settles O1: the frame written is among the encodings, and each of them decodes. -/
theorem decodeOfEncodingIsTheInstruction : Obligations.DecodeOfEncodingIsTheInstruction := fun i hwf =>
  ⟨encode_mem_encodings i, fun _ hf => decode_of_mem_encodings hwf hf⟩

/-- Settles O2, by the kind of frame. -/
theorem decodedFrameIsAnEncoding : Obligations.DecodedFrameIsAnEncoding := by
  intro f i hdecode
  cases f with
  | wireTx b =>
    rcases (decodeTx_eq_ok_iff b i).1 hdecode with ⟨rfl, rfl⟩ | ⟨rfl, rfl⟩ | ⟨rfl, rfl⟩ <;>
      simp [Instr.wellFormed, encodings]
  | wireRx p b =>
    obtain rfl : decodeRx p b = i := Except.ok.inj hdecode
    exact ⟨decodeRx_wellFormed p b, wireRx_mem_encodings p b⟩
  | hostCmd id =>
    obtain rfl : decodeHost id = i := Except.ok.inj hdecode
    exact ⟨decodeHost_wellFormed id, hostCmd_mem_encodings id⟩
  | cfg c =>
    obtain ⟨hdefect, rfl⟩ := (decodeConfig_eq_ok_iff c i).1 hdecode
    simp [Instr.wellFormed, encodings, hdefect]

/-- Settles O3: of the four kinds of frame, received bytes and identifiers always decode. -/
theorem decodeRejectsExactlyTheReservedFrames : Obligations.DecodeRejectsExactlyTheReservedFrames := by
  intro f
  cases f with
  | wireTx b => simpa [decode, opcodeNoOp, opcodeReadPosition, opcodeSetZero] using decodeTx_eq_error_iff b
  | wireRx p b => simp [decode]
  | hostCmd id => simp [decode]
  | cfg c => simpa [decode] using decodeConfig_eq_error_iff c

/-- Settles O7: the defects are those of the lines and of the options' upper bits. -/
theorem validConfigurationsAreThoseOfTheRules : Obligations.ValidConfigurationsAreThoseOfTheRules := by
  intro c
  rw [defect_eq_none_iff, linesDistinct_iff, optionBits_clear_iff]

/-- Settles O4: the ten words, evaluated. -/
theorem wordsOfTheSpecDecodeAsItReadsThem : Obligations.WordsOfTheSpecDecodeAsItReadsThem := by
  unfold Obligations.WordsOfTheSpecDecodeAsItReadsThem
  decide

end Sys2Proof

/-! PROOFS. The host's calls (spec/41_command_sequencer.md R140 to R145, spec/40_bus_transport.md R126, R129): each row
as the dispatch it is, and the obligations O5, O10 and O12 to O15 assembled from that. -/

namespace Sys2Proof.Machine

/-! ### The rows of the host's calls -/

theorem exec_hostClearBuffer (s : State) : exec .hostClearBuffer s = dispatch (some .cb) s := rfl

theorem exec_hostReadPos (s : State) : exec .hostReadPos s = dispatch (some .rp) s := rfl

theorem exec_hostSetZero (s : State) : exec .hostSetZero s = dispatch (some .sz) s := rfl

theorem exec_hostUnrecognised (id : String) (s : State) :
    exec (.hostUnrecognised id) s = dispatch (recognise id) s := rfl

theorem exec_hostConfigure (c : BusConfiguration) (s : State) : exec (.hostConfigure c) s = execHostConfigure c s := rfl

/-! ### configure -/

theorem execHostConfigure_busy {s : State} {ss : Session} (hs : s.session = some ss) (c : BusConfiguration) :
    execHostConfigure c s = .refused .hostCallWhileBusy := by
  simp [execHostConfigure, hs]

theorem execHostConfigure_defect {s : State} {c : BusConfiguration} {d : ConfigDefect} (hs : s.session = none)
    (hd : c.defect = some d) : execHostConfigure c s = .refused (.invalidConfiguration d) := by
  simp [execHostConfigure, hs, hd]

theorem execHostConfigure_valid {s : State} {c : BusConfiguration} (hs : s.session = none) (hd : c.defect = none) :
    execHostConfigure c s = .next (applyConfiguration c s.takeCall) := by
  simp [execHostConfigure, hs, hd]

/-- Settles O13: the record is applied after the call is taken. -/
theorem configureAppliesTheRecord : Obligations.ConfigureAppliesTheRecord := by
  intro s c hs hd
  rw [exec_hostConfigure, execHostConfigure_valid hs hd]
  rfl

/-- Settles O14. -/
theorem invalidConfigurationIsRefused : Obligations.InvalidConfigurationIsRefused := by
  intro s c d hs hd
  rw [exec_hostConfigure, execHostConfigure_defect hs hd]

/-! ### The three commands and the unrecognised class -/

theorem exec_hostUnrecognised_idle {s : State} {id : String} (hs : s.session = none) (hid : recognise id = none) :
    exec (.hostUnrecognised id) s = .next (s.takeCall.raiseAtDispatch .invalidCommand) := by
  rw [exec_hostUnrecognised, hid, dispatch_unrecognised hs]

/-- Settles O10: the dispatch of an unrecognised identifier raises the fault before it looks at configured. -/
theorem unrecognisedIdentifierIsInvalidCommand : Obligations.UnrecognisedIdentifierIsInvalidCommand := by
  intro s id hs hcb hrp hsz
  rw [exec_hostUnrecognised_idle hs ((recognise_eq_none_iff id).2 ⟨hcb, hrp, hsz⟩)]
  rfl

/-- Settles O5: the four classes of identifiers exclude one another, and the last is dispatched to the fault. -/
theorem identifiersAreRecognisedExactly : Obligations.IdentifiersAreRecognisedExactly := by
  intro id
  have hdecode : decode (.hostCmd id) = .ok (decodeHost id) := rfl
  rw [hdecode]
  refine ⟨?clearBuffer, ?readPos, ?setZero, fun hcb hrp hsz => ?unrecognised⟩
  case unrecognised =>
    have hid : recognise id = none := (recognise_eq_none_iff id).2 ⟨hcb, hrp, hsz⟩
    exact ⟨congrArg Except.ok (decodeHost_of_recognise_eq_none hid),
      fun s hs => ⟨_, exec_hostUnrecognised_idle hs hid, rfl⟩⟩
  all_goals
    rcases decodeHost_cases id with ⟨rfl, h⟩ | ⟨rfl, h⟩ | ⟨rfl, h⟩ | ⟨hid, h⟩ <;> rw [h]
    case inr.inr.inr => simp [(recognise_eq_none_iff id).1 hid]
    all_goals simp

/-- Settles O12: each of the three rows is the dispatch of its command, and a ready block accepts it. -/
theorem acceptedCommandOpensItsSession : Obligations.AcceptedCommandOpensItsSession := by
  rintro s ⟨hs, hc⟩
  rw [exec_hostClearBuffer, exec_hostReadPos, exec_hostSetZero, dispatch_accepted hs hc, dispatch_accepted hs hc,
    dispatch_accepted hs hc]
  exact ⟨rfl, rfl, rfl⟩

/-- Settles O15: a host row is either a dispatch or configure, and both look at the session first. -/
theorem hostCallWhileBusyIsRefused : Obligations.HostCallWhileBusyIsRefused := by
  intro s i hs hi
  obtain ⟨ss, hss⟩ := Option.ne_none_iff_exists'.1 hs
  cases i with
  | hostClearBuffer => exact (exec_hostClearBuffer s).trans (dispatch_busy hss _)
  | hostReadPos => exact (exec_hostReadPos s).trans (dispatch_busy hss _)
  | hostSetZero => exact (exec_hostSetZero s).trans (dispatch_busy hss _)
  | hostUnrecognised id => exact dispatch_busy hss _
  | hostConfigure c => exact execHostConfigure_busy hss c
  | _ => cases hi

end Sys2Proof.Machine

/-! PROOFS. The phase steps outside read_pos (spec/42_sync_detector.md R173 to R175, spec/44_set_zero.md R222 to R224),
RP_LSB without a nibble, the wire rows as views of a phase step, and the faults of spec/60_exceptions.md; the
obligations O17 and O23 to O29 assembled from them. -/

namespace Sys2Proof.Machine

/-! ### CB_SYNC -/

/-- CB_SYNC with budget left ends the command on a match that follows one match, and counts otherwise (R173 to
R175). -/
theorem phaseStep_cbSync_eq {s : State} {ss : Session} (hp : ss.phase = .cbSync) (ha : ss.attempts ≠ s.maxAttempts)
    (b : Byte) :
    phaseStep s ss (.byte b) = .next
      (if b = valueAckIdle ∧ s.syncCount = 1 then
        { s.afterXfer opcodeNoOp with
          syncCount := 2, link := .ready, session := none,
          results := s.results ++ [.ok (some .cbSync) (ss.xfers + 1) .completed] }
      else
        { s.afterXfer opcodeNoOp with
          syncCount := if b = valueAckIdle then s.syncCount + 1 else 0,
          session := some { ss with xfers := ss.xfers + 1, attempts := ss.attempts + 1 } }) := by
  have hcounted := Session.counted_of_isLoop (ss := ss) (by rw [hp]; rfl)
  rw [phaseStep_cbSync hp ha, hcounted]
  by_cases hb : b = valueAckIdle
  · subst hb
    rcases updateCbSync_cases (s.afterXfer opcodeNoOp)
      { ss with xfers := ss.xfers + 1, attempts := ss.attempts + 1 } valueAckIdle with ⟨hn, hupd⟩ | ⟨hn, hupd⟩ <;>
      rw [hupd] <;> simp at hn
    · simp [hn, hp]
    · simp [hn]
  · simp [hb, updateCbSync_of_ne hb]

/-- Settles O17: the phase step of CB_SYNC, seen from its two rows. -/
theorem cbSyncStepWrittenOut : Obligations.CbSyncStepWrittenOut := by
  intro s ss b hs hp ha
  have hrows := rows_of_phaseStep hs (exec_txNoOp_of_phase hs (by simp [hp, phasesOf])) (phaseStep_cbSync_eq hp ha b)
  have hrow : decodeRx ss.phase b = .rxAckIdle b := by rw [hp]; rfl
  rw [hrow] at hrows
  exact hrows

/-! ### SZ_CMD and SZ_ACK -/

/-- The transmitted row SET_ZERO is the phase step of SZ_CMD, with the transport's answer. -/
theorem exec_txSetZero_of_phase {s : State} {ss : Session} (hs : s.session = some ss)
    (hp : ss.phase ∈ phasesOf .txSetZero) : exec .txSetZero s = phaseStep s ss s.nextAnswer := by
  have htx : txByte ss.phase = opcodeSetZero := (txByte_eq_setZero_iff ss.phase).2 hp
  rw [← txStep_of_session hs, htx]
  rfl

/-- SZ_CMD sends SET_ZERO and begins the acknowledgement wait with a full budget (R222). -/
theorem phaseStep_szCmd {ss : Session} (hp : ss.phase = .szCmd) (s : State) (b : Byte) :
    phaseStep s ss (.byte b) = .next { s.afterXfer opcodeSetZero with
      session := some { ss with phase := .szAck, xfers := ss.xfers + 1, attempts := 0 } } := by
  calc phaseStep s ss (.byte b)
      = .next (updateSzCmd (s.afterXfer opcodeSetZero) { ss with xfers := ss.xfers + 1 } b) :=
        phaseStep_byte_of_not_isLoop hp rfl s b
    _ = _ := by rw [updateSzCmd_eq]

/-- Settles O24: the phase step of SZ_CMD, seen from its two rows. -/
theorem szCmdSendsSetZero : Obligations.SzCmdSendsSetZero := by
  intro s ss b hs hp
  have hrows := rows_of_phaseStep hs (exec_txSetZero_of_phase hs (by simp [hp, phasesOf])) (phaseStep_szCmd hp s b)
  rwa [hp] at hrows

/-- SZ_ACK with budget left ends the command on the acknowledgement alone (R223, R224). -/
theorem phaseStep_szAck {s : State} {ss : Session} (hp : ss.phase = .szAck) (ha : ss.attempts ≠ s.maxAttempts)
    (b : Byte) :
    phaseStep s ss (.byte b) = .next
      (if b = valueAckZero then
        { s.afterXfer opcodeNoOp with
          session := none,
          results := s.results ++ [.ok (some .szAck) (ss.xfers + 1) (.powerCycleRequired true)] }
      else
        { s.afterXfer opcodeNoOp with
          session := some { ss with xfers := ss.xfers + 1, attempts := ss.attempts + 1 } }) := by
  calc phaseStep s ss (.byte b)
      = .next (updateSzAck (s.afterXfer opcodeNoOp)
          { ss with xfers := ss.xfers + 1, attempts := ss.attempts + 1 } b) :=
        phaseStep_byte_of_isLoop hp rfl ha b
    _ = _ := by
      rcases updateSzAck_cases (s.afterXfer opcodeNoOp)
        { ss with xfers := ss.xfers + 1, attempts := ss.attempts + 1 } b with ⟨hack, hupd⟩ | ⟨hother, hupd⟩
      · rw [hupd, if_pos hack, hp, State.afterXfer_results]
      · rw [hupd, if_neg hother]

/-- Settles O25: the phase step of SZ_ACK, seen from its two rows. -/
theorem szAckAwaitsTheAcknowledgement : Obligations.SzAckAwaitsTheAcknowledgement := by
  intro s ss b hs hp ha
  have hrows := rows_of_phaseStep hs (exec_txNoOp_of_phase hs (by simp [hp, phasesOf])) (phaseStep_szAck hp ha b)
  have hrow : decodeRx ss.phase b = .rxAckZero b := by rw [hp]; rfl
  rw [hrow] at hrows
  exact hrows

/-! ### RP_LSB without a latched nibble -/

/-- Settles O23: the phase step of RP_LSB is refused, and the three views are that phase step. -/
theorem rpLsbWithoutANibbleIsRefused : Obligations.RpLsbWithoutANibbleIsRefused := by
  intro s ss l hs hp hm
  have hstep : phaseStep s ss (.byte l) = .refused .unwrittenLatch :=
    (phaseStep_refused_iff s ss _ _).2 ⟨hp, hm, ⟨l, rfl⟩, rfl⟩
  refine ⟨?rx, fun hanswer => ⟨?tx, ?step⟩⟩
  case rx =>
    have hrx := exec_decodeRx hs l
    rwa [hp, hstep] at hrx
  case tx => rw [exec_txNoOp_of_phase hs (by simp [hp, phasesOf]), hanswer, hstep]
  case step => rw [step_session hs, hanswer, hstep]

/-! ### The wire rows as views of a phase step -/

/-- What a wire row does, written once for both directions: it is refused without a session and in a phase that does
not exchange its frame, else it is the phase step with the answer `a`. -/
def wireView (ps : List Phase) (a : Answer) (s : State) : StepResult :=
  match s.session with
  | none => .refused .exchangeOutsideSession
  | some ss => if ss.phase ∈ ps then phaseStep s ss a else .refused (.frameNotOfPhase ss.phase)

theorem wireView_noSession {s : State} (hs : s.session = none) (ps : List Phase) (a : Answer) :
    wireView ps a s = .refused .exchangeOutsideSession := by
  simp [wireView, hs]

theorem wireView_of_mem {s : State} {ss : Session} {ps : List Phase} (hs : s.session = some ss) (hp : ss.phase ∈ ps)
    (a : Answer) : wireView ps a s = phaseStep s ss a := by
  simp [wireView, hs, hp]

theorem wireView_of_not_mem {s : State} {ss : Session} {ps : List Phase} (hs : s.session = some ss)
    (hp : ss.phase ∉ ps) (a : Answer) : wireView ps a s = .refused (.frameNotOfPhase ss.phase) := by
  simp [wireView, hs, hp]

theorem txStep_eq_wireView {op : Byte} {ps : List Phase} (hop : ∀ p, txByte p = op ↔ p ∈ ps) (s : State) :
    txStep op s = wireView ps s.nextAnswer s := by
  cases hs : s.session <;> simp [txStep, wireView, hs, hop]

theorem rxStep_eq_wireView (ps : List Phase) (b : Byte) (s : State) : rxStep ps b s = wireView ps (.byte b) s := by
  cases hs : s.session <;> simp [rxStep, wireView, hs]

/-- Every wire row is a view of the phase step of its phases. -/
theorem exec_eq_wireView {i : Instr} (hi : isHostInstr i = false) (s : State) :
    ∃ a, exec i s = wireView (phasesOf i) a s := by
  cases i with
  | txNoOp => exact ⟨_, txStep_eq_wireView txByte_eq_noOp_iff s⟩
  | txReadPosition => exact ⟨_, txStep_eq_wireView txByte_eq_readPosition_iff s⟩
  | txSetZero => exact ⟨_, txStep_eq_wireView txByte_eq_setZero_iff s⟩
  | rxAckIdle b => exact ⟨_, rxStep_eq_wireView _ b s⟩
  | rxEchoRead b => exact ⟨_, rxStep_eq_wireView _ b s⟩
  | rxAckZero b => exact ⟨_, rxStep_eq_wireView _ b s⟩
  | rxUninspected b => exact ⟨_, rxStep_eq_wireView _ b s⟩
  | rxDataMsb x h => exact ⟨_, rxStep_eq_wireView _ (dataMsbByte x h) s⟩
  | rxDataLsb b => exact ⟨_, rxStep_eq_wireView _ b s⟩
  | _ => cases hi

/-- Each opcode's row is the phase step with the transport's answer, in the phases that transmit it. -/
theorem exec_tx_of_phase {i : Instr} (hi : i ∈ [Instr.txNoOp, .txReadPosition, .txSetZero]) {s : State} {ss : Session}
    (hs : s.session = some ss) (hp : ss.phase ∈ phasesOf i) : exec i s = phaseStep s ss s.nextAnswer := by
  simp only [List.mem_cons, List.not_mem_nil, or_false] at hi
  rcases hi with rfl | rfl | rfl
  · exact exec_txNoOp_of_phase hs hp
  · exact exec_txReadPosition_of_phase hs hp
  · exact exec_txSetZero_of_phase hs hp

/-- Settles O26: a wire row is a view of a phase step, which needs a session in one of the row's phases. -/
theorem wireInstructionOutsideItsPhaseIsRefused : Obligations.WireInstructionOutsideItsPhaseIsRefused := by
  intro s i hi
  obtain ⟨a, hexec⟩ := exec_eq_wireView hi s
  rw [hexec]
  exact ⟨fun hs => wireView_noSession hs _ a, fun ss hs hp => wireView_of_not_mem hs hp a⟩

/-! ### Ignored bytes and bits -/

/-- The three phases that receive their byte uninspected treat every byte alike. -/
theorem phaseStep_uninspected {ss : Session} (hp : ss.phase ∈ [Phase.rpCmd, .rpShift, .szCmd]) (s : State)
    (b c : Byte) : phaseStep s ss (.byte b) = phaseStep s ss (.byte c) := by
  simp only [List.mem_cons, List.not_mem_nil, or_false] at hp
  rcases hp with hp | hp | hp
  · rw [phaseStep_rpCmd hp, phaseStep_rpCmd hp]
  · rw [phaseStep_rpShift hp, phaseStep_rpShift hp]
  · rw [phaseStep_szCmd hp, phaseStep_szCmd hp]

/-- RP_MSB sees of its byte the low nibble alone. -/
theorem phaseStep_dataMsb {ss : Session} (hp : ss.phase ∈ [Phase.rpMsb]) (s : State) (x y h : Nibble) :
    phaseStep s ss (.byte (dataMsbByte x h)) = phaseStep s ss (.byte (dataMsbByte y h)) := by
  have hp : ss.phase = .rpMsb := List.mem_singleton.1 hp
  rw [phaseStep_rpMsb hp, phaseStep_rpMsb hp, latchNibble_dataMsbByte, latchNibble_dataMsbByte]

/-- Two answers that every phase of `ps` treats alike give one view. -/
theorem wireView_congr {ps : List Phase} {a a' : Answer} {s : State}
    (h : ∀ ss : Session, ss.phase ∈ ps → phaseStep s ss a = phaseStep s ss a') :
    wireView ps a s = wireView ps a' s := by
  cases hs : s.session with
  | none => rw [wireView_noSession hs, wireView_noSession hs]
  | some ss =>
    by_cases hp : ss.phase ∈ ps
    · rw [wireView_of_mem hs hp, wireView_of_mem hs hp, h ss hp]
    · rw [wireView_of_not_mem hs hp, wireView_of_not_mem hs hp]

/-- Settles O27: in the phases of each of the two rows the step does not see what is ignored. -/
theorem ignoredBitsHaveNoEffect : Obligations.IgnoredBitsHaveNoEffect := by
  intro s
  refine ⟨fun b c => ?uninspected, fun x y h => ?nibble⟩
  case uninspected =>
    calc exec (.rxUninspected b) s
        = wireView [.rpCmd, .rpShift, .szCmd] (.byte b) s := rxStep_eq_wireView _ b s
      _ = wireView [.rpCmd, .rpShift, .szCmd] (.byte c) s :=
        wireView_congr fun ss hp => phaseStep_uninspected hp s b c
      _ = exec (.rxUninspected c) s := (rxStep_eq_wireView _ c s).symm
  case nibble =>
    calc exec (.rxDataMsb x h) s
        = wireView [.rpMsb] (.byte (dataMsbByte x h)) s := rxStep_eq_wireView _ _ s
      _ = wireView [.rpMsb] (.byte (dataMsbByte y h)) s := wireView_congr fun ss hp => phaseStep_dataMsb hp s x y h
      _ = exec (.rxDataMsb y h) s := (rxStep_eq_wireView _ _ s).symm

/-! ### The faults of a session -/

/-- Settles O28: the phase step answered BusFault, seen as the step and as the transmitted row of the phase. -/
theorem busFaultAbortsTheCommand : Obligations.BusFaultAbortsTheCommand := by
  intro s ss hs hleft hanswer
  have hstep := phaseStep_busFault hleft
  rw [← hanswer] at hstep
  exact ⟨(step_session hs).trans hstep, fun i hi hp => (exec_tx_of_phase hi hs hp).trans hstep⟩

/-- The three handshake loops, which all transmit the no-op (R11, R92). -/
theorem isLoop_and_transmits_noOp {p : Phase} (hp : p ∈ [Phase.cbSync, .rpEcho, .szAck]) :
    isLoop p = true ∧ p ∈ phasesOf .txNoOp := by
  revert p
  decide

/-- Settles O29: with the budget spent the phase step raises SyncTimeout whatever the answer, and every view is that
phase step. -/
theorem spentBudgetIsSyncTimeout : Obligations.SpentBudgetIsSyncTimeout := by
  intro s ss hs hp ha
  obtain ⟨hloop, hnoOp⟩ := isLoop_and_transmits_noOp hp
  have hstep := phaseStep_timeout ((budgetSpent_iff s ss).2 ⟨hloop, ha⟩)
  refine ⟨?tx, fun b => ?rx, ?step⟩
  case tx => exact (exec_txNoOp_of_phase hs hnoOp).trans (hstep _)
  case rx => exact (exec_decodeRx hs b).trans (hstep _)
  case step => exact (step_session hs).trans (hstep _)

end Sys2Proof.Machine

/-! PROOFS. All that a phase step can do, said once (spec/41_command_sequencer.md R146, R147, R151): the moves of a
session, and their converse. Every statement about all steps is a case split over them. -/

namespace Sys2Proof.Machine

/-! ### The moves of a session -/

/-- `GoesOn c ss b c' tt`: the rule of the phase of `ss`, applied to the byte `b` where sync_count is `c`, leaves the
session `tt` and sync_count `c'` (R147). -/
inductive GoesOn (c : Nat) (ss : Session) (b : Byte) : Nat → Session → Prop where
  | counted (hp : ss.phase = .cbSync) (hc : nextSyncCount c b ≠ 2) :
      GoesOn c ss b (nextSyncCount c b) { ss with xfers := ss.xfers + 1, attempts := ss.attempts + 1 }
  | readSent (hp : ss.phase = .rpCmd) :
      GoesOn c ss b c { ss with phase := .rpEcho, xfers := ss.xfers + 1, attempts := 0 }
  | echoed (hp : ss.phase = .rpEcho) (hb : b = valueEchoRead) :
      GoesOn c ss b c { ss with phase := .rpShift, xfers := ss.xfers + 1, attempts := ss.attempts + 1 }
  | notEchoed (hp : ss.phase = .rpEcho) (hb : b ≠ valueEchoRead) :
      GoesOn c ss b c { ss with xfers := ss.xfers + 1, attempts := ss.attempts + 1 }
  | shifted (hp : ss.phase = .rpShift) :
      GoesOn c ss b c { ss with phase := .rpMsb, xfers := ss.xfers + 1 }
  | latched (hp : ss.phase = .rpMsb) :
      GoesOn c ss b c { ss with phase := .rpLsb, xfers := ss.xfers + 1, msbNibble := some (latchNibble b) }
  | zeroSent (hp : ss.phase = .szCmd) :
      GoesOn c ss b c { ss with phase := .szAck, xfers := ss.xfers + 1, attempts := 0 }
  | notAcknowledged (hp : ss.phase = .szAck) (hb : b ≠ valueAckZero) :
      GoesOn c ss b c { ss with xfers := ss.xfers + 1, attempts := ss.attempts + 1 }

/-- `Completes c l ss b c' l' payload`: the rule of the phase of `ss`, applied to the byte `b` where sync_count is `c`
and link is `l`, ends the command with `payload`, sync_count `c'` and link `l'` (R152). -/
inductive Completes (c : Nat) (l : Link) (ss : Session) (b : Byte) : Nat → Link → Payload → Prop where
  | synced (hp : ss.phase = .cbSync) (hc : nextSyncCount c b = 2) : Completes c l ss b 2 .ready .completed
  | positioned (hp : ss.phase = .rpLsb) (m : Nibble) (hm : ss.msbNibble = some m) :
      Completes c l ss b c l (.position (assemblePosition m b))
  | zeroed (hp : ss.phase = .szAck) (hb : b = valueAckZero) : Completes c l ss b c l (.powerCycleRequired true)

/-- The next state of a phase step whose command goes on. -/
def State.goOn (s : State) (ss : Session) (c : Nat) (tt : Session) : State :=
  { s.afterXfer (txByte ss.phase) with syncCount := c, session := some tt }

/-- The next state of a phase step that ends its command with a success. -/
def State.complete (s : State) (ss : Session) (c : Nat) (l : Link) (payload : Payload) : State :=
  { s.afterXfer (txByte ss.phase) with
    syncCount := c, link := l, session := none,
    results := s.results ++ [.ok (some ss.phase) (ss.xfers + 1) payload] }

/-- The four ways in which a phase step of session `ss`, answered `a`, answers a next state. -/
inductive PhaseMove (s : State) (ss : Session) : Answer → State → Prop where
  | timeout (a : Answer) (hspent : budgetSpent s ss = true) : PhaseMove s ss a (s.raiseInSession .syncTimeout ss)
  | busFault (hleft : budgetSpent s ss = false) :
      PhaseMove s ss .busFault ((s.afterXfer (txByte ss.phase)).raiseInSession .busFault ss)
  | goOn {b : Byte} {c : Nat} {tt : Session} (hleft : budgetSpent s ss = false)
      (hon : GoesOn s.syncCount ss b c tt) : PhaseMove s ss (.byte b) (s.goOn ss c tt)
  | complete {b : Byte} {c : Nat} {l : Link} {payload : Payload} (hleft : budgetSpent s ss = false)
      (hdone : Completes s.syncCount s.link ss b c l payload) :
      PhaseMove s ss (.byte b) (s.complete ss c l payload)

/-! ### The moves are those of the phase step -/

/-- With budget left in a handshake loop, the attempts fall short of it. -/
theorem attempts_ne_of_budget_left {s : State} {ss : Session} (hleft : budgetSpent s ss = false)
    (hl : isLoop ss.phase = true) : ss.attempts ≠ s.maxAttempts := by
  simpa [budgetSpent, hl] using hleft

/-- The count reaches two exactly on a match that follows one match. -/
theorem nextSyncCount_eq_two_iff (c : Nat) (b : Byte) : nextSyncCount c b = 2 ↔ b = valueAckIdle ∧ c = 1 := by
  by_cases hb : b = valueAckIdle
  · simp [hb]
  · simp [hb, nextSyncCount_of_ne hb]

theorem nextSyncCount_eq_ite (c : Nat) (b : Byte) : nextSyncCount c b = if b = valueAckIdle then c + 1 else 0 := by
  simp [nextSyncCount, isAckIdle]

theorem phaseStep_of_goesOn {s : State} {ss tt : Session} {b : Byte} {c : Nat} (hleft : budgetSpent s ss = false)
    (hon : GoesOn s.syncCount ss b c tt) : phaseStep s ss (.byte b) = .next (s.goOn ss c tt) := by
  have hattempts := attempts_ne_of_budget_left hleft
  cases hon with
  | counted hp hc =>
    rw [phaseStep_cbSync_eq hp (hattempts (by rw [hp]; rfl)), if_neg (mt (nextSyncCount_eq_two_iff _ _).2 hc),
      ← nextSyncCount_eq_ite, State.goOn, hp]
    rfl
  | readSent hp => rw [phaseStep_rpCmd hp, State.goOn, hp]; rfl
  | echoed hp hb => rw [phaseStep_rpEcho hp (hattempts (by rw [hp]; rfl)), if_pos hb, State.goOn, hp]; rfl
  | notEchoed hp hb => rw [phaseStep_rpEcho hp (hattempts (by rw [hp]; rfl)), if_neg hb, State.goOn, hp]; rfl
  | shifted hp => rw [phaseStep_rpShift hp, State.goOn, hp]; rfl
  | latched hp => rw [phaseStep_rpMsb hp, State.goOn, hp]; rfl
  | zeroSent hp => rw [phaseStep_szCmd hp, State.goOn, hp]; rfl
  | notAcknowledged hp hb =>
    rw [phaseStep_szAck hp (hattempts (by rw [hp]; rfl)), if_neg hb, State.goOn, hp]; rfl

theorem phaseStep_of_completes {s : State} {ss : Session} {b : Byte} {c : Nat} {l : Link} {payload : Payload}
    (hleft : budgetSpent s ss = false) (hdone : Completes s.syncCount s.link ss b c l payload) :
    phaseStep s ss (.byte b) = .next (s.complete ss c l payload) := by
  have hattempts := attempts_ne_of_budget_left hleft
  cases hdone with
  | synced hp hc =>
    rw [phaseStep_cbSync_eq hp (hattempts (by rw [hp]; rfl)), if_pos ((nextSyncCount_eq_two_iff _ _).1 hc),
      State.complete, hp]
    rfl
  | positioned hp m hm => rw [phaseStep_rpLsb hp hm, State.complete, hp]; rfl
  | zeroed hp hb => rw [phaseStep_szAck hp (hattempts (by rw [hp]; rfl)), if_pos hb, State.complete, hp]; rfl

/-- A received byte has the session go on or completes its command, but for RP_LSB without a latched nibble. -/
theorem goesOn_or_completes (c : Nat) (l : Link) (ss : Session) (b : Byte) :
    (∃ c' tt, GoesOn c ss b c' tt) ∨ (∃ c' l' payload, Completes c l ss b c' l' payload) ∨
      (ss.phase = .rpLsb ∧ ss.msbNibble = none) := by
  cases hp : ss.phase with
  | cbSync =>
    by_cases hc : nextSyncCount c b = 2
    · exact .inr (.inl ⟨_, _, _, .synced hp hc⟩)
    · exact .inl ⟨_, _, .counted hp hc⟩
  | rpCmd => exact .inl ⟨_, _, .readSent hp⟩
  | rpEcho =>
    by_cases hb : b = valueEchoRead
    · exact .inl ⟨_, _, .echoed hp hb⟩
    · exact .inl ⟨_, _, .notEchoed hp hb⟩
  | rpShift => exact .inl ⟨_, _, .shifted hp⟩
  | rpMsb => exact .inl ⟨_, _, .latched hp⟩
  | rpLsb =>
    cases hm : ss.msbNibble with
    | none => exact .inr (.inr ⟨rfl, rfl⟩)
    | some m => exact .inr (.inl ⟨_, _, _, .positioned hp m hm⟩)
  | szCmd => exact .inl ⟨_, _, .zeroSent hp⟩
  | szAck =>
    by_cases hb : b = valueAckZero
    · exact .inr (.inl ⟨_, _, _, .zeroed hp hb⟩)
    · exact .inl ⟨_, _, .notAcknowledged hp hb⟩

theorem PhaseMove.phaseStep_eq {s t : State} {ss : Session} {a : Answer} (h : PhaseMove s ss a t) :
    phaseStep s ss a = .next t := by
  cases h with
  | timeout a hspent => exact phaseStep_timeout hspent a
  | busFault hleft => exact phaseStep_busFault hleft
  | goOn hleft hon => exact phaseStep_of_goesOn hleft hon
  | complete hleft hdone => exact phaseStep_of_completes hleft hdone

/-- A phase step makes one of the four moves, unless it is RP_LSB without a latched nibble, answered a byte. -/
theorem exists_phaseMove (s : State) (ss : Session) (a : Answer) :
    (∃ t, PhaseMove s ss a t) ∨ (ss.phase = .rpLsb ∧ ss.msbNibble = none ∧ ∃ b, a = .byte b) := by
  cases hb : budgetSpent s ss with
  | true => exact .inl ⟨_, .timeout a hb⟩
  | false =>
    cases a with
    | busFault => exact .inl ⟨_, .busFault hb⟩
    | byte b =>
      rcases goesOn_or_completes s.syncCount s.link ss b with ⟨_, _, hon⟩ | ⟨_, _, _, hdone⟩ | ⟨hp, hm⟩
      · exact .inl ⟨_, .goOn hb hon⟩
      · exact .inl ⟨_, .complete hb hdone⟩
      · exact .inr ⟨hp, hm, b, rfl⟩

/-- The phase step answers a next state exactly by one of the four moves. -/
theorem phaseStep_eq_next_iff {s t : State} {ss : Session} {a : Answer} :
    phaseStep s ss a = .next t ↔ PhaseMove s ss a t := by
  refine ⟨fun h => ?move, PhaseMove.phaseStep_eq⟩
  case move =>
    rcases exists_phaseMove s ss a with ⟨u, hu⟩ | ⟨hp, hm, hbyte⟩
    · rw [hu.phaseStep_eq] at h
      cases h
      exact hu
    · rw [(phaseStep_refused_iff s ss a _).2 ⟨hp, hm, hbyte, rfl⟩] at h
      cases h

/-! ### The moves of the machine -/

/-- All the ways in which a step answers a next state. -/
inductive StepMove (s : State) : State → Prop where
  | phase {t : State} (ss : Session) (hs : s.session = some ss) (hmove : PhaseMove s ss s.nextAnswer t) : StepMove s t
  | idle (hs : s.session = none) (hprog : s.program = []) : StepMove s s
  | unrecognised (id : String) (cs : List HostCall) (hs : s.session = none) (hprog : s.program = .command id :: cs)
      (hid : recognise id = none) : StepMove s (s.takeCall.raiseAtDispatch .invalidCommand)
  | notConfigured (id : String) (cs : List HostCall) (c : Cmd) (hs : s.session = none)
      (hprog : s.program = .command id :: cs) (hid : recognise id = some c) (hconf : s.configured = false) :
      StepMove s (s.takeCall.raiseAtDispatch .notConfigured)
  | accepted (id : String) (cs : List HostCall) (c : Cmd) (hs : s.session = none)
      (hprog : s.program = .command id :: cs) (hid : recognise id = some c) (hconf : s.configured = true) :
      StepMove s (beginCommand c s.takeCall)
  | configure (c : BusConfiguration) (cs : List HostCall) (hs : s.session = none)
      (hprog : s.program = .configure c :: cs) (hdefect : c.defect = none) :
      StepMove s (applyConfiguration c s.takeCall)

theorem stepMove_of_step {s t : State} (h : step s = .next t) : StepMove s t := by
  rcases step_next h with ⟨ss, hs, hphase⟩ | ⟨hs, hprog, rfl⟩ | ⟨id, cs, hs, hprog, hdispatch⟩ |
    ⟨c, cs, hs, hprog, hdefect, rfl⟩
  · exact .phase ss hs (phaseStep_eq_next_iff.1 hphase)
  · exact .idle hs hprog
  · obtain ⟨-, ⟨hid, rfl⟩ | ⟨c, hid, hconf, rfl⟩ | ⟨c, hid, hconf, rfl⟩⟩ := dispatch_next hdispatch
    · exact .unrecognised id cs hs hprog hid
    · exact .notConfigured id cs c hs hprog hid hconf
    · exact .accepted id cs c hs hprog hid hconf
  · exact .configure c cs hs hprog hdefect

theorem StepMove.step_eq {s t : State} (h : StepMove s t) : step s = .next t := by
  cases h with
  | phase ss hs hmove => rw [step_session hs, hmove.phaseStep_eq]
  | idle hs hprog => exact step_idle hs hprog
  | unrecognised id cs hs hprog hid => rw [step_command hs hprog, hid, dispatch_unrecognised hs]
  | notConfigured id cs c hs hprog hid hconf => rw [step_command hs hprog, hid, dispatch_notConfigured hs hconf]
  | accepted id cs c hs hprog hid hconf => rw [step_command hs hprog, hid, dispatch_accepted hs hconf]
  | configure c cs hs hprog hdefect => rw [step_configure hs hprog, execHostConfigure_valid hs hdefect]

/-! ### What a session keeps when its command goes on -/

theorem GoesOn.cmd_eq {c c' : Nat} {ss tt : Session} {b : Byte} (h : GoesOn c ss b c' tt) : tt.cmd = ss.cmd := by
  cases h <;> rfl

theorem GoesOn.xfers_eq {c c' : Nat} {ss tt : Session} {b : Byte} (h : GoesOn c ss b c' tt) :
    tt.xfers = ss.xfers + 1 := by
  cases h <;> rfl

/-- The phases follow the transfer table (R147). -/
theorem GoesOn.phase_mem {c c' : Nat} {ss tt : Session} {b : Byte} (h : GoesOn c ss b c' tt) :
    tt.phase ∈ nextPhases ss.phase := by
  cases h <;> simp [nextPhases, *]

theorem phaseCmd_of_mem_nextPhases {p q : Phase} (h : q ∈ nextPhases p) : phaseCmd q = phaseCmd p := by
  revert q
  cases p <;> decide

end Sys2Proof.Machine

/-! PROOFS. What the moves change and leave unchanged, a field at a time, and the obligations O30 to O37 about a single
step assembled from it. -/

namespace Sys2Proof.Machine

/-! ### The fields after a move -/

section
variable (s : State) (ss tt : Session) (c : Nat) (l : Link) (payload : Payload)

@[simp] theorem State.goOn_configured : (s.goOn ss c tt).configured = s.configured := rfl

@[simp] theorem State.goOn_cfg : (s.goOn ss c tt).cfg = s.cfg := rfl

@[simp] theorem State.goOn_link : (s.goOn ss c tt).link = s.link := rfl

@[simp] theorem State.goOn_session : (s.goOn ss c tt).session = some tt := rfl

@[simp] theorem State.goOn_syncCount : (s.goOn ss c tt).syncCount = c := rfl

@[simp] theorem State.goOn_maxAttempts : (s.goOn ss c tt).maxAttempts = s.maxAttempts := rfl

@[simp] theorem State.goOn_program : (s.goOn ss c tt).program = s.program := rfl

@[simp] theorem State.goOn_answers : (s.goOn ss c tt).answers = s.answers.tail := rfl

@[simp] theorem State.goOn_draws : (s.goOn ss c tt).draws = s.draws + 1 := rfl

@[simp] theorem State.goOn_txTrace : (s.goOn ss c tt).txTrace = s.txTrace ++ [txByte ss.phase] := rfl

@[simp] theorem State.goOn_results : (s.goOn ss c tt).results = s.results := rfl

@[simp] theorem State.goOn_busConfigures : (s.goOn ss c tt).busConfigures = s.busConfigures := rfl

@[simp] theorem State.complete_configured : (s.complete ss c l payload).configured = s.configured := rfl

@[simp] theorem State.complete_cfg : (s.complete ss c l payload).cfg = s.cfg := rfl

@[simp] theorem State.complete_link : (s.complete ss c l payload).link = l := rfl

@[simp] theorem State.complete_session : (s.complete ss c l payload).session = none := rfl

@[simp] theorem State.complete_syncCount : (s.complete ss c l payload).syncCount = c := rfl

@[simp] theorem State.complete_maxAttempts : (s.complete ss c l payload).maxAttempts = s.maxAttempts := rfl

@[simp] theorem State.complete_program : (s.complete ss c l payload).program = s.program := rfl

@[simp] theorem State.complete_answers : (s.complete ss c l payload).answers = s.answers.tail := rfl

@[simp] theorem State.complete_draws : (s.complete ss c l payload).draws = s.draws + 1 := rfl

@[simp] theorem State.complete_txTrace :
    (s.complete ss c l payload).txTrace = s.txTrace ++ [txByte ss.phase] := rfl

@[simp] theorem State.complete_results :
    (s.complete ss c l payload).results = s.results ++ [.ok (some ss.phase) (ss.xfers + 1) payload] := rfl

@[simp] theorem State.complete_busConfigures :
    (s.complete ss c l payload).busConfigures = s.busConfigures := rfl

end

@[simp] theorem beginCommand_session (c : Cmd) (s : State) :
    (beginCommand c s).session = some (Session.fresh c) := by
  cases c <;> rfl

@[simp] theorem beginCommand_cfg (c : Cmd) (s : State) : (beginCommand c s).cfg = s.cfg := by
  cases c <;> rfl

@[simp] theorem beginCommand_maxAttempts (c : Cmd) (s : State) : (beginCommand c s).maxAttempts = s.maxAttempts := by
  cases c <;> rfl

@[simp] theorem beginCommand_answers (c : Cmd) (s : State) : (beginCommand c s).answers = s.answers := by
  cases c <;> rfl

@[simp] theorem beginCommand_draws (c : Cmd) (s : State) : (beginCommand c s).draws = s.draws := by
  cases c <;> rfl

@[simp] theorem beginCommand_txTrace (c : Cmd) (s : State) : (beginCommand c s).txTrace = s.txTrace := by
  cases c <;> rfl

/-- Accepting clear_buffer clears the counter (R171). -/
theorem beginCommand_syncCount (c : Cmd) (s : State) :
    (beginCommand c s).syncCount = if c = .cb then 0 else s.syncCount := by
  cases c <;> rfl

/-- Accepting clear_buffer sets link to SYNCING (R171). -/
theorem beginCommand_link (c : Cmd) (s : State) : (beginCommand c s).link = if c = .cb then .syncing else s.link := by
  cases c <;> rfl

/-! ### The decoded instruction (O30, O31) -/

/-- A frame is received exactly in an exchange that is made and answered by a byte. -/
theorem fetchRx_eq_some {s : State} {f : Frame} (h : fetchRx s = some f) :
    ∃ ss b, s.session = some ss ∧ s.nextAnswer = .byte b ∧ f = .wireRx ss.phase b := by
  unfold fetchRx at h
  split at h
  · cases h
  · rename_i ss hs
    split at h
    · cases h
    · split at h
      · rename_i b hanswer
        cases h
        exact ⟨ss, b, hs, hanswer, rfl⟩
      · cases h

/-- Settles O30: the fetched frame by the definition of a step, the received one by the two views of a phase step. -/
theorem stepRunsTheDecodedInstruction : Obligations.StepRunsTheDecodedInstruction := by
  intro s f i hdecode
  refine ⟨fun hfetch => ?fetched, fun hrx => ?received⟩
  case fetched => simp only [step, hfetch, hdecode]
  case received =>
    obtain ⟨ss, b, hs, hanswer, rfl⟩ := fetchRx_eq_some hrx
    obtain rfl : decodeRx ss.phase b = i := Except.ok.inj hdecode
    rw [step_session hs, hanswer, exec_decodeRx hs]

/-- Settles O31. -/
theorem idleBlockWaits : Obligations.IdleBlockWaits := fun _ hs hprog => step_idle hs hprog

/-! ### Refusals (O32) -/

theorem step_refused_iff (s : State) (r : Refusal) : step s = .refused r ↔
    (∃ c cs d, s.session = none ∧ s.program = .configure c :: cs ∧ c.defect = some d ∧
      r = .invalidConfiguration d) ∨
      (∃ ss b, s.session = some ss ∧ ss.phase = .rpLsb ∧ ss.msbNibble = none ∧ s.nextAnswer = .byte b ∧
        r = .unwrittenLatch) := by
  cases hs : s.session with
  | some ss =>
    rw [step_session hs, phaseStep_refused_iff]
    simp
  | none =>
    cases hprog : s.program with
    | nil => simp [step_idle hs hprog]
    | cons call cs =>
      cases call with
      | command id =>
        have hnext : ∀ t, dispatch (recognise id) s ≠ .refused t := by
          intro t
          cases hid : recognise id with
          | none => simp [dispatch_unrecognised hs]
          | some c => cases hconf : s.configured <;> simp [dispatch_notConfigured, dispatch_accepted, hs, hconf]
        simp [step_command hs hprog, hnext]
      | configure c =>
        rw [step_configure hs hprog]
        cases hdefect : c.defect with
        | none => simp [execHostConfigure_valid hs hdefect, hdefect]
        | some d => simp [execHostConfigure_defect hs hdefect, hdefect, eq_comm]

/-- Under the invariant the nibble is latched in RP_LSB (R31). -/
theorem Inv.msbNibble_ne_none {s : State} (hinv : Inv s) {ss : Session} (hs : s.session = some ss)
    (hp : ss.phase = .rpLsb) : ss.msbNibble ≠ none :=
  Option.isSome_iff_ne_none.1 ((hinv.session_ok ss hs).nibble_iff.2 hp)

/-- Settles O32: the refusals of a step, of which the invariant excludes the second. -/
theorem stepRefusesOnlyInvalidConfigurations : Obligations.StepRefusesOnlyInvalidConfigurations := by
  refine ⟨step_refused_iff, fun s r hinv => (step_refused_iff s r).trans (or_iff_left ?latched)⟩
  case latched =>
    rintro ⟨ss, b, hs, hp, hm, -⟩
    exact hinv.msbNibble_ne_none hs hp hm

/-! ### Exchanges (O33) -/

/-- A phase step whose budget is spent makes no exchange. -/
theorem PhaseMove.no_exchange {s t : State} {ss : Session} {a : Answer} (h : PhaseMove s ss a t)
    (hspent : budgetSpent s ss = true) : t.txTrace = s.txTrace ∧ t.answers = s.answers ∧ t.draws = s.draws := by
  cases h with
  | timeout => exact ⟨rfl, rfl, rfl⟩
  | busFault hleft | goOn hleft | complete hleft => simp [hleft] at hspent

/-- Every other phase step makes one exchange, of the phase's byte. -/
theorem PhaseMove.one_exchange {s t : State} {ss : Session} {a : Answer} (h : PhaseMove s ss a t)
    (hleft : budgetSpent s ss = false) :
    t.txTrace = s.txTrace ++ [txByte ss.phase] ∧ t.answers = s.answers.tail ∧ t.draws = s.draws + 1 := by
  cases h with
  | timeout a hspent => simp [hleft] at hspent
  | busFault | goOn | complete => exact ⟨rfl, rfl, rfl⟩

/-- Without a session no exchange is made (R125). -/
theorem StepMove.no_exchange {s t : State} (h : StepMove s t) (hs : s.session = none) :
    t.txTrace = s.txTrace ∧ t.answers = s.answers ∧ t.draws = s.draws := by
  cases h with
  | phase ss hss => simp [hs] at hss
  | idle | unrecognised | notConfigured | configure => exact ⟨rfl, rfl, rfl⟩
  | accepted => simp

/-- With a session present a step is one of its moves. -/
theorem StepMove.phaseMove {s t : State} {ss : Session} (h : StepMove s t) (hs : s.session = some ss) :
    PhaseMove s ss s.nextAnswer t := by
  cases h with
  | phase ss' hs' hmove =>
    obtain rfl : ss' = ss := Option.some.inj (hs'.symm.trans hs)
    exact hmove
  | idle hnone | unrecognised _ _ hnone | notConfigured _ _ _ hnone | accepted _ _ _ hnone | configure _ _ hnone =>
    rw [hnone] at hs
    cases hs

/-- A phase step ends the command and delivers one result, or leaves a session and delivers none. -/
theorem PhaseMove.delivers {s t : State} {ss : Session} {a : Answer} (h : PhaseMove s ss a t) :
    (t.session = none ∧ ∃ r, t.results = s.results ++ [r]) ∨ (t.session ≠ none ∧ t.results = s.results) := by
  cases h with
  | timeout | busFault | complete => exact .inl ⟨rfl, _, rfl⟩
  | goOn => exact .inr ⟨by simp, rfl⟩

/-- Without a session a step takes a call and delivers one result, or opens a session, or waits. -/
theorem StepMove.delivers {s t : State} (h : StepMove s t) (hs : s.session = none) :
    (t.session = none ∧ s.program ≠ [] ∧ ∃ r, t.results = s.results ++ [r]) ∨
      (t.session ≠ none ∧ t.results = s.results) ∨ t = s := by
  cases h with
  | phase ss hss => simp [hs] at hss
  | idle => exact .inr (.inr rfl)
  | unrecognised _ _ _ hprog | notConfigured _ _ _ _ hprog | configure _ _ _ hprog =>
    exact .inl ⟨hs, by simp [hprog], _, rfl⟩
  | accepted => exact .inr (.inl (by simp))

/-- Where a step leaves a session it delivers nothing. -/
theorem StepMove.results_eq_of_session {s t : State} (h : StepMove s t) (ht : t.session ≠ none) :
    t.results = s.results := by
  cases hs : s.session with
  | some ss => exact ((h.phaseMove hs).delivers.resolve_left fun hend => ht hend.1).2
  | none =>
    rcases h.delivers hs with ⟨hnone, -⟩ | ⟨-, hres⟩ | rfl
    · exact absurd hnone ht
    · exact hres
    · rfl

/-- Settles O33: the exchange of each move, and that a step that delivers a result leaves no session. -/
theorem exchangesAreSingleBytesOfPhaseSteps : Obligations.ExchangesAreSingleBytesOfPhaseSteps := by
  intro s t hstep
  have hmove := stepMove_of_step hstep
  refine ⟨hmove.no_exchange, fun ss hs => (hmove.phaseMove hs).no_exchange,
    fun ss hs => (hmove.phaseMove hs).one_exchange, fun p n hres => ?ended⟩
  case ended =>
    by_contra ht
    simp [hmove.results_eq_of_session ht] at hres

/-! ### The configuration snapshot (O34) -/

theorem PhaseMove.cfg_eq {s t : State} {ss : Session} {a : Answer} (h : PhaseMove s ss a t) : t.cfg = s.cfg := by
  cases h <;> rfl

/-- A step leaves cfg alone or applies a fetched record. -/
theorem StepMove.cfg_eq_or_configure {s t : State} (h : StepMove s t) :
    t.cfg = s.cfg ∨ ∃ c, fetch s = some (.cfg c) ∧ t.cfg = some c := by
  cases h with
  | phase ss hs hmove => exact .inl hmove.cfg_eq
  | idle | unrecognised | notConfigured => exact .inl rfl
  | accepted => exact .inl (by simp)
  | configure c cs hs hprog => exact .inr ⟨c, by simp [fetch, hs, hprog, callFrame], rfl⟩

/-- Settles O34: of the moves of a step configure alone writes cfg. -/
theorem cfgIsWrittenOnlyByConfigure : Obligations.CfgIsWrittenOnlyByConfigure := by
  refine ⟨fun s t hstep hne => (stepMove_of_step hstep).cfg_eq_or_configure.resolve_left hne, fun s t c hexec => ?whole⟩
  case whole =>
    obtain ⟨-, -, rfl⟩ := execHostConfigure_next hexec
    rfl

/-! ### Results (O35) -/

theorem PhaseMove.maxAttempts_eq {s t : State} {ss : Session} {a : Answer} (h : PhaseMove s ss a t) :
    t.maxAttempts = s.maxAttempts := by
  cases h <;> rfl

theorem StepMove.maxAttempts_eq {s t : State} (h : StepMove s t) : t.maxAttempts = s.maxAttempts := by
  cases h with
  | phase ss hs hmove => exact hmove.maxAttempts_eq
  | idle | unrecognised | notConfigured | configure => rfl
  | accepted => simp

/-- Settles O35. -/
theorem resultsAreDeliveredOncePerCommand : Obligations.ResultsAreDeliveredOncePerCommand := by
  intro s t hstep
  have hmove := stepMove_of_step hstep
  exact ⟨hmove.maxAttempts_eq, fun ss hs => (hmove.phaseMove hs).delivers, hmove.delivers⟩

/-! ### Phases (O36) -/

/-- A move that leaves a session is one in which the command goes on. -/
theorem PhaseMove.goesOn_of_session {s t : State} {ss tt : Session} {a : Answer} (h : PhaseMove s ss a t)
    (ht : t.session = some tt) :
    ∃ b c, a = .byte b ∧ budgetSpent s ss = false ∧ GoesOn s.syncCount ss b c tt ∧ t = s.goOn ss c tt := by
  cases h with
  | timeout | busFault | complete => simp at ht
  | goOn hleft hon =>
    cases ht
    exact ⟨_, _, rfl, hleft, hon, rfl⟩

/-- Settles O36: what holds of every session that goes on. -/
theorem phasesFollowTheTransferTable : Obligations.PhasesFollowTheTransferTable := by
  intro s t ss tt hs hstep ht
  obtain ⟨b, c, -, -, hon, -⟩ := ((stepMove_of_step hstep).phaseMove hs).goesOn_of_session ht
  exact ⟨hon.cmd_eq, hon.phase_mem, hon.xfers_eq⟩

/-! ### The link status (O37) -/

/-- Only a completed clear_buffer raises link to READY; every other success leaves link as it was. -/
theorem Completes.link_cases {c c' : Nat} {l l' : Link} {ss : Session} {b : Byte} {payload : Payload}
    (h : Completes c l ss b c' l' payload) :
    l' = l ∨ (ss.phase = .cbSync ∧ c = 1 ∧ b = valueAckIdle ∧ c' = 2) := by
  cases h with
  | synced hp hc =>
    obtain ⟨hb, hone⟩ := (nextSyncCount_eq_two_iff c b).1 hc
    exact .inr ⟨hp, hone, hb, rfl⟩
  | positioned | zeroed => exact .inl rfl

/-- Settles O37: the moves that write link write IDLE or SYNCING, but for the completion of clear_buffer. -/
theorem readyOnlyAfterTwoAcknowledgements : Obligations.ReadyOnlyAfterTwoAcknowledgements := by
  intro s t hstep hne hready
  cases stepMove_of_step hstep with
  | phase ss hs hmove =>
    generalize s.nextAnswer = a at hmove ⊢
    cases hmove with
    | timeout | busFault => simp at hready
    | goOn => exact absurd hready hne
    | complete hleft hdone =>
      rcases hdone.link_cases with hlink | ⟨hp, hone, rfl, rfl⟩
      · exact absurd (hlink.symm.trans hready) hne
      · exact ⟨ss, hs, hp, hone, rfl, rfl, rfl⟩
  | idle | unrecognised | notConfigured => exact absurd hready hne
  | accepted id cs c =>
    rw [beginCommand_link] at hready
    split at hready
    · cases hready
    · exact absurd hready hne
  | configure => simp at hready

end Sys2Proof.Machine

/-! PROOFS. Non-interference: link and cfg are read by no rule (spec/10_state.md R22, R24). A state dressed in another
link and another snapshot makes the same moves; the obligations O38 and O39 are its two halves. -/

namespace Sys2Proof.Machine

/-! ### The same state in another dress -/

/-- The state with another link status and another configuration snapshot. -/
def State.dress (s : State) (l : Link) (c : Option BusConfiguration) : State := (s.setLink l).setCfg c

theorem State.setLink_eq_dress (s : State) (l : Link) : s.setLink l = s.dress l s.cfg := rfl

theorem State.setCfg_eq_dress (s : State) (c : Option BusConfiguration) : s.setCfg c = s.dress s.link c := rfl

/-- `l'` and `c'` are a dress for the next state `t`, given that `s` wore `l` and `c`: where `s` wore its own link, or
its own snapshot, so does `t`. -/
structure DressFits (s t : State) (l : Link) (c : Option BusConfiguration) (l' : Link)
    (c' : Option BusConfiguration) : Prop where
  link : l = s.link → l' = t.link
  cfg : c = s.cfg → c' = t.cfg

/-! ### The moves of a dressed state -/

theorem Completes.dress {c c' : Nat} {l l' : Link} {ss : Session} {b : Byte} {payload : Payload}
    (h : Completes c l ss b c' l' payload) (k : Link) :
    ∃ k', Completes c k ss b c' k' payload ∧ (k = l → k' = l') := by
  cases h with
  | synced hp hc => exact ⟨_, .synced hp hc, fun _ => rfl⟩
  | positioned hp m hm => exact ⟨_, .positioned hp m hm, id⟩
  | zeroed hp hb => exact ⟨_, .zeroed hp hb, id⟩

theorem PhaseMove.dress {s t : State} {ss : Session} {a : Answer} (h : PhaseMove s ss a t) (l : Link)
    (c : Option BusConfiguration) :
    ∃ l' c', PhaseMove (s.dress l c) ss a (t.dress l' c') ∧ DressFits s t l c l' c' := by
  cases h with
  | timeout a hspent => exact ⟨.idle, c, .timeout a hspent, fun _ => rfl, id⟩
  | busFault hleft => exact ⟨.idle, c, .busFault hleft, fun _ => rfl, id⟩
  | goOn hleft hon => exact ⟨l, c, .goOn hleft hon, id, id⟩
  | complete hleft hdone =>
    obtain ⟨l', hdone', hl⟩ := hdone.dress l
    exact ⟨l', c, .complete hleft hdone', hl, id⟩

theorem beginCommand_dress (k : Cmd) (s : State) (l : Link) (c : Option BusConfiguration) :
    beginCommand k (s.dress l c) = (beginCommand k s).dress (if k = .cb then .syncing else l) c := by
  cases k <;> rfl

theorem StepMove.dress {s t : State} (h : StepMove s t) (l : Link) (c : Option BusConfiguration) :
    ∃ l' c', StepMove (s.dress l c) (t.dress l' c') ∧ DressFits s t l c l' c' := by
  cases h with
  | phase ss hs hmove =>
    obtain ⟨l', c', hmove', hfits⟩ := hmove.dress l c
    exact ⟨l', c', .phase ss hs hmove', hfits⟩
  | idle hs hprog => exact ⟨l, c, .idle hs hprog, id, id⟩
  | unrecognised id cs hs hprog hid => exact ⟨l, c, .unrecognised id cs hs hprog hid, fun h => h, fun h => h⟩
  | notConfigured id cs k hs hprog hid hconf =>
    exact ⟨l, c, .notConfigured id cs k hs hprog hid hconf, fun h => h, fun h => h⟩
  | accepted id cs k hs hprog hid hconf =>
    have hmove : StepMove (s.dress l c) _ := .accepted id cs k hs hprog hid hconf
    refine ⟨if k = .cb then .syncing else l, c, beginCommand_dress k s.takeCall l c ▸ hmove, ?_, ?_⟩
    · rintro rfl
      exact (beginCommand_link k s.takeCall).symm
    · rintro rfl
      exact (beginCommand_cfg k s.takeCall).symm
  | configure k cs hs hprog hdefect =>
    exact ⟨.idle, some k, .configure k cs hs hprog hdefect, fun _ => rfl, fun _ => rfl⟩

/-- A step refuses the dressed state as it refuses the state. -/
theorem step_dress_refused {s : State} {r : Refusal} (h : step s = .refused r) (l : Link)
    (c : Option BusConfiguration) : step (s.dress l c) = .refused r :=
  (step_refused_iff (s.dress l c) r).2 ((step_refused_iff s r).1 h)

/-- A step of the dressed state is a dressed step. -/
theorem step_dress (s : State) (l : Link) (c : Option BusConfiguration) :
    (∃ t l' c', step s = .next t ∧ step (s.dress l c) = .next (t.dress l' c') ∧ DressFits s t l c l' c') ∨
      (∃ r, step s = .refused r ∧ step (s.dress l c) = .refused r) := by
  cases hstep : step s with
  | next t =>
    obtain ⟨l', c', hmove, hfits⟩ := (stepMove_of_step hstep).dress l c
    exact .inl ⟨t, l', c', rfl, hmove.step_eq, hfits⟩
  | fault f => cases f
  | refused r => exact .inr ⟨r, rfl, step_dress_refused hstep l c⟩

/-- Settles O38: another link, the snapshot being the state's own. -/
theorem linkGatesNothing : Obligations.LinkGatesNothing := by
  intro s l
  rw [State.setLink_eq_dress]
  rcases step_dress s l s.cfg with ⟨t, l', c', hstep, hdress, hfits⟩ | hrefused
  · obtain rfl : c' = t.cfg := hfits.cfg rfl
    exact .inl ⟨t, l', hstep, hdress⟩
  · exact .inr hrefused

/-- Settles O39: another snapshot, the link being the state's own. -/
theorem cfgIsReadByNoRule : Obligations.CfgIsReadByNoRule := by
  intro s c
  rw [State.setCfg_eq_dress]
  rcases step_dress s s.link c with ⟨t, l', c', hstep, hdress, hfits⟩ | hrefused
  · obtain rfl : l' = t.link := hfits.link rfl
    exact .inl ⟨t, c', hstep, hdress⟩
  · exact .inr hrefused

end Sys2Proof.Machine

/-! PROOFS. The invariants (spec/10_state.md R39, spec/60_exceptions.md R242, spec/70_reset_and_hazards.md R290,
spec/41_command_sequencer.md R157): what each move does to a well-kept session, to the counter and link, to the results
and to the transmit trace, and the obligations O40 to O44 assembled from it. -/

namespace Sys2Proof.Machine

/-! ### Reset -/

/-- Settles O40. -/
theorem resetLeavesTheBlockIdle : Obligations.ResetLeavesTheBlockIdle :=
  ⟨rfl, rfl, rfl, rfl, rfl, rfl, rfl, rfl, rfl, rfl, Nat.succ_pos _⟩

theorem inv_reset : Inv State.reset where
  budget_pos := Nat.succ_pos _
  cfg_iff := rfl
  session_configured := by simp [State.reset]
  syncing_iff := by simp [State.reset]
  sync_le_two := by simp [State.reset]
  sync_in_flight := by simp [State.reset]
  ready_counted := by simp [State.reset]
  session_ok := by simp [State.reset]

/-- Settles O41: nothing has been put out, so that results and trace are empty. -/
theorem resetMeetsTheInvariants : Obligations.ResetMeetsTheInvariants :=
  ⟨inv_reset, by simp [ResultsLegal, State.reset], rfl⟩

/-! ### A well-kept session -/

theorem phaseCmd_eq_cb_iff (p : Phase) : phaseCmd p = .cb ↔ p = .cbSync := by
  cases p <;> decide

theorem SessionOk.cmd_eq_cb_iff {m : Nat} {ss : Session} (h : SessionOk m ss) : ss.cmd = .cb ↔ ss.phase = .cbSync := by
  rw [← h.phase_of_cmd, phaseCmd_eq_cb_iff]

theorem sessionOk_fresh (m : Nat) (c : Cmd) : SessionOk m (Session.fresh c) where
  phase_of_cmd := phaseCmd_firstPhase c
  attempts_le := Nat.zero_le m
  xfers_eq := by cases c <;> rfl
  echo_seen := by cases c <;> simp [firstPhase]
  nibble_iff := by cases c <;> simp [firstPhase]
  no_lsb := rfl

/-- Another exchange of a handshake loop stays within the budget. -/
theorem SessionOk.attempts_lt {s : State} {ss : Session} (h : SessionOk s.maxAttempts ss)
    (hleft : budgetSpent s ss = false) (hl : isLoop ss.phase = true) : ss.attempts < s.maxAttempts :=
  lt_of_le_of_ne h.attempts_le (attempts_ne_of_budget_left hleft hl)

/-- In a handshake loop the latches hold no value, and no more is needed for the loop to go on well kept. -/
theorem SessionOk.again {m : Nat} {ss : Session} (h : SessionOk m ss) (hl : isLoop ss.phase = true)
    (ha : ss.attempts < m) : SessionOk m { ss with xfers := ss.xfers + 1, attempts := ss.attempts + 1 } where
  phase_of_cmd := h.phase_of_cmd
  attempts_le := ha
  xfers_eq := by
    rw [h.xfers_eq]
    cases hp : ss.phase with
    | cbSync | rpEcho | szAck => rfl
    | rpCmd | rpShift | rpMsb | rpLsb | szCmd => simp [hp, isLoop] at hl
  echo_seen := fun _ => Nat.succ_pos _
  nibble_iff := h.nibble_iff
  no_lsb := h.no_lsb

/-- Wherever the command goes on, its session stays well kept. -/
theorem GoesOn.sessionOk {s : State} {ss tt : Session} {c c' : Nat} {b : Byte} (h : GoesOn c ss b c' tt)
    (hok : SessionOk s.maxAttempts ss) (hleft : budgetSpent s ss = false) : SessionOk s.maxAttempts tt := by
  have hlt := hok.attempts_lt hleft
  have hcmd : phaseCmd tt.phase = tt.cmd := by
    rw [phaseCmd_of_mem_nextPhases h.phase_mem, h.cmd_eq, hok.phase_of_cmd]
  have hnibble : ss.phase ≠ .rpLsb → ss.msbNibble = none := fun hp => by simpa [hp] using hok.nibble_iff
  have hxfers := hok.xfers_eq
  cases h with
  | counted hp | notEchoed hp | notAcknowledged hp => exact hok.again (by rw [hp]; rfl) (hlt (by rw [hp]; rfl))
  | echoed hp =>
    have hmore : ss.attempts < s.maxAttempts := hlt (by rw [hp]; rfl)
    exact ⟨hcmd, hmore, by simpa [hp, exchangesMade] using hxfers, fun _ => Nat.succ_pos _,
      by simp [hnibble, hp], hok.no_lsb⟩
  | readSent hp =>
    exact ⟨hcmd, Nat.zero_le _, by simpa [hp, exchangesMade] using hxfers, by simp, by simp [hnibble, hp], hok.no_lsb⟩
  | zeroSent hp =>
    exact ⟨hcmd, Nat.zero_le _, by simpa [hp, exchangesMade] using hxfers, by simp, by simp [hnibble, hp], hok.no_lsb⟩
  | shifted hp =>
    exact ⟨hcmd, hok.attempts_le, by simpa [hp, exchangesMade] using hxfers, fun _ => hok.echo_seen (.inl hp),
      by simp [hnibble, hp], hok.no_lsb⟩
  | latched hp =>
    exact ⟨hcmd, hok.attempts_le, by simpa [hp, exchangesMade] using hxfers, fun _ => hok.echo_seen (.inr (.inl hp)),
      by simp, hok.no_lsb⟩

/-! ### The counter and link -/

/-- CB_SYNC alone writes the counter; where it goes on, the new count is not two and one more attempt was made. -/
theorem GoesOn.counter_cases {c c' : Nat} {ss tt : Session} {b : Byte} (h : GoesOn c ss b c' tt) :
    (ss.phase ≠ .cbSync ∧ c' = c) ∨
      (ss.phase = .cbSync ∧ c' = nextSyncCount c b ∧ c' ≠ 2 ∧ tt.attempts = ss.attempts + 1) := by
  cases h with
  | counted hp hc => exact .inr ⟨hp, rfl, hc, rfl⟩
  | readSent hp | echoed hp | notEchoed hp | shifted hp | latched hp | zeroSent hp | notAcknowledged hp =>
    exact .inl ⟨by simp [hp], rfl⟩

theorem nextSyncCount_le (c : Nat) (b : Byte) : nextSyncCount c b ≤ c + 1 := by
  rw [nextSyncCount_eq_ite]
  split <;> omega

/-- No clear_buffer is in flight where there is no session. -/
theorem Inv.link_ne_syncing_of_idle {s : State} (hinv : Inv s) (hs : s.session = none) : s.link ≠ .syncing := by
  rw [Ne, hinv.syncing_iff, hs]
  simp

/-- link is SYNCING in flight exactly in CB_SYNC (R39 b). -/
theorem Inv.link_eq_syncing_iff {s : State} (hinv : Inv s) {ss : Session} (hs : s.session = some ss) :
    s.link = .syncing ↔ ss.phase = .cbSync := by
  rw [hinv.syncing_iff, ← (hinv.session_ok ss hs).cmd_eq_cb_iff, hs]
  simp

/-- Without a session the invariant says of link that it is not SYNCING, and counted to two where it is READY. -/
theorem inv_of_no_session {t : State} (hbudget : 1 ≤ t.maxAttempts) (hcfg : t.cfg.isSome = t.configured)
    (ht : t.session = none) (hlink : t.link ≠ .syncing) (hsync : t.syncCount ≤ 2)
    (hready : t.link = .ready → t.syncCount = 2 ∧ t.configured = true) : Inv t where
  budget_pos := hbudget
  cfg_iff := hcfg
  session_configured := by simp [ht]
  syncing_iff := by simp [ht, hlink]
  sync_le_two := hsync
  sync_in_flight := by simp [ht]
  ready_counted := hready
  session_ok := by simp [ht]

/-- Under the invariant a session ends with link READY, the counter being two, or with both as they were and link not
SYNCING. -/
theorem Inv.completes_cases {s : State} (hinv : Inv s) {ss : Session} (hs : s.session = some ss) {b : Byte} {c : Nat}
    {l : Link} {payload : Payload} (h : Completes s.syncCount s.link ss b c l payload) :
    (l = .ready ∧ c = 2) ∨ (l = s.link ∧ s.link ≠ .syncing ∧ c = s.syncCount) := by
  cases h with
  | synced => exact .inl ⟨rfl, rfl⟩
  | positioned hp | zeroed hp => exact .inr ⟨rfl, by simp [hinv.link_eq_syncing_iff hs, hp], rfl⟩

/-! ### The invariant of R39 -/

theorem Inv.goOn {s : State} (hinv : Inv s) {ss tt : Session} (hs : s.session = some ss)
    (hleft : budgetSpent s ss = false) {b : Byte} {c : Nat} (h : GoesOn s.syncCount ss b c tt) :
    Inv (s.goOn ss c tt) := by
  have hok := hinv.session_ok ss hs
  have hlink := hinv.link_eq_syncing_iff hs
  have hok' : SessionOk s.maxAttempts tt := h.sessionOk hok hleft
  have hconf : s.configured = true := hinv.session_configured (by simp [hs])
  have hsync : c ≤ 2 ∧ (tt.cmd = .cb → c ≤ 1 ∧ c ≤ tt.attempts) ∧ (s.link = .ready → c = 2) := by
    rw [h.cmd_eq, hok.cmd_eq_cb_iff]
    rcases h.counter_cases with ⟨hp, rfl⟩ | ⟨hp, hc, hne, hattempts⟩
    · exact ⟨hinv.sync_le_two, fun hcb => absurd hcb hp, fun hready => (hinv.ready_counted hready).1⟩
    · have hcount := hinv.sync_in_flight ss hs (hok.cmd_eq_cb_iff.2 hp)
      have hnext := nextSyncCount_le s.syncCount b
      refine ⟨by omega, fun _ => by omega, fun hready => ?_⟩
      simp [hready, hp] at hlink
  obtain ⟨htwo, hflight, hready⟩ := hsync
  exact {
    budget_pos := hinv.budget_pos
    cfg_iff := hinv.cfg_iff
    session_configured := fun _ => hconf
    syncing_iff := by simp [hlink, h.cmd_eq, hok.cmd_eq_cb_iff]
    sync_le_two := htwo
    sync_in_flight := by simpa using hflight
    ready_counted := fun hl => ⟨hready hl, hconf⟩
    session_ok := by simpa using hok' }

theorem Inv.phaseMove {s t : State} (hinv : Inv s) {ss : Session} (hs : s.session = some ss) {a : Answer}
    (h : PhaseMove s ss a t) : Inv t := by
  have hconf : s.configured = true := hinv.session_configured (by simp [hs])
  cases h with
  | timeout | busFault =>
    exact inv_of_no_session hinv.budget_pos hinv.cfg_iff rfl (by simp) hinv.sync_le_two (by simp)
  | goOn hleft hon => exact hinv.goOn hs hleft hon
  | complete hleft hdone =>
    rcases hinv.completes_cases hs hdone with ⟨rfl, rfl⟩ | ⟨rfl, hlink, rfl⟩
    · exact inv_of_no_session hinv.budget_pos hinv.cfg_iff rfl (by simp) le_rfl fun _ => ⟨rfl, hconf⟩
    · exact inv_of_no_session hinv.budget_pos hinv.cfg_iff rfl hlink hinv.sync_le_two hinv.ready_counted

/-- A result delivered at dispatch touches nothing the invariant speaks of. -/
theorem Inv.raiseAtDispatch {s : State} (hinv : Inv s) (hs : s.session = none) (k : FaultKind) :
    Inv (s.takeCall.raiseAtDispatch k) :=
  inv_of_no_session hinv.budget_pos hinv.cfg_iff hs (hinv.link_ne_syncing_of_idle hs) hinv.sync_le_two
    hinv.ready_counted

theorem Inv.beginCommand {s : State} (hinv : Inv s) (hs : s.session = none) (hconf : s.configured = true) (c : Cmd) :
    Inv (beginCommand c s.takeCall) where
  budget_pos := by simpa using hinv.budget_pos
  cfg_iff := by simpa using hinv.cfg_iff
  session_configured := fun _ => by simpa using hconf
  syncing_iff := by
    have hlink := hinv.link_ne_syncing_of_idle hs
    cases c <;> simp [beginCommand_link, hlink]
  sync_le_two := by
    have hsync := hinv.sync_le_two
    cases c <;> simp [beginCommand_syncCount, hsync]
  sync_in_flight := by cases c <;> simp [beginCommand_syncCount]
  ready_counted := by
    cases c with
    | cb => simp [beginCommand_link]
    | rp | sz => simpa [beginCommand_syncCount, beginCommand_link] using hinv.ready_counted
  session_ok := by simpa using sessionOk_fresh s.maxAttempts c

/-- Settles O42, by the move the step makes. -/
theorem everyStepKeepsTheInvariant : Obligations.EveryStepKeepsTheInvariant := by
  intro s t hinv hstep
  cases stepMove_of_step hstep with
  | phase ss hs hmove => exact hinv.phaseMove hs hmove
  | idle => exact hinv
  | unrecognised id cs hs => exact hinv.raiseAtDispatch hs _
  | notConfigured id cs c hs => exact hinv.raiseAtDispatch hs _
  | accepted id cs c hs hprog hid hconf => exact hinv.beginCommand hs hconf c
  | configure c cs hs =>
    exact inv_of_no_session hinv.budget_pos rfl hs (by simp) hinv.sync_le_two (by simp)

/-! ### Legal results -/

/-- A spent budget is reported in one of the three loops, with the exchanges its command then made. -/
theorem SessionOk.timeout_legal {s : State} {ss : Session} (hok : SessionOk s.maxAttempts ss)
    (hspent : budgetSpent s ss = true) :
    LegalResult s.maxAttempts (.fault .syncTimeout (some ss.phase) ss.xfers) := by
  obtain ⟨hloop, ha⟩ := (budgetSpent_iff s ss).1 hspent
  have hxfers := hok.xfers_eq
  rw [ha] at hxfers
  cases hp : ss.phase with
  | cbSync | rpEcho | szAck => simpa [LegalResult, hp, exchangesMade] using hxfers
  | rpCmd | rpShift | rpMsb | rpLsb | szCmd => simp [hp, isLoop] at hloop

/-- The exchanges before a BusFault are those of the phase, less the one that failed. -/
theorem SessionOk.busFault_legal {s : State} {ss : Session} (hok : SessionOk s.maxAttempts ss)
    (hleft : budgetSpent s ss = false) :
    LegalResult s.maxAttempts (.fault .busFault (some ss.phase) ss.xfers) := by
  have hlt := hok.attempts_lt hleft
  have hle := hok.attempts_le
  refine ⟨ss.phase, rfl, ?_⟩
  rw [hok.xfers_eq]
  cases hp : ss.phase with
  | cbSync | rpEcho | szAck =>
    have hmore : ss.attempts < s.maxAttempts := hlt (by rw [hp]; rfl)
    simp only [busFaultCount, exchangesMade]
    omega
  | rpCmd | szCmd => rfl
  | rpShift | rpMsb | rpLsb =>
    have hmade : 1 ≤ ss.attempts := hok.echo_seen (by simp [hp])
    simp only [busFaultCount, exchangesMade]
    omega

/-- A success is reported after as many exchanges as its command's table allows; two matches need two. -/
theorem Inv.complete_legal {s : State} (hinv : Inv s) {ss : Session} (hs : s.session = some ss)
    (hleft : budgetSpent s ss = false) {b : Byte} {c : Nat} {l : Link} {payload : Payload}
    (h : Completes s.syncCount s.link ss b c l payload) :
    LegalResult s.maxAttempts (.ok (some ss.phase) (ss.xfers + 1) payload) := by
  have hok := hinv.session_ok ss hs
  have hlt := hok.attempts_lt hleft
  have hxfers := hok.xfers_eq
  cases h with
  | synced hp hc =>
    have hone : s.syncCount = 1 := ((nextSyncCount_eq_two_iff _ _).1 hc).2
    have hmade := (hinv.sync_in_flight ss hs (hok.cmd_eq_cb_iff.2 hp)).2
    have hmore : ss.attempts < s.maxAttempts := hlt (by rw [hp]; rfl)
    simp only [hp, exchangesMade] at hxfers
    exact .inl ⟨hp, by omega, by omega, rfl⟩
  | positioned hp =>
    have hmade := hok.echo_seen (.inr (.inr hp))
    have hle := hok.attempts_le
    simp only [hp, exchangesMade] at hxfers
    exact .inr (.inl ⟨hp, by omega, by omega, _, rfl⟩)
  | zeroed hp =>
    have hmore : ss.attempts < s.maxAttempts := hlt (by rw [hp]; rfl)
    simp only [hp, exchangesMade] at hxfers
    exact .inr (.inr ⟨hp, by omega, by omega, rfl⟩)

theorem ResultsLegal.append {s t : State} {r : Result} (h : ResultsLegal s) (hmax : t.maxAttempts = s.maxAttempts)
    (hres : t.results = s.results ++ [r]) (hr : LegalResult s.maxAttempts r) : ResultsLegal t := by
  intro r' hr'
  rw [hres, List.mem_append, List.mem_singleton] at hr'
  rw [hmax]
  rcases hr' with hold | rfl
  · exact h r' hold
  · exact hr

theorem ResultsLegal.of_eq {s t : State} (h : ResultsLegal s) (hmax : t.maxAttempts = s.maxAttempts)
    (hres : t.results = s.results) : ResultsLegal t := by
  intro r hr
  rw [hmax]
  exact h r (hres ▸ hr)

/-- Settles O43, by the move the step makes: the result it delivers, if any, is legal. -/
theorem everyStepKeepsResultsLegal : Obligations.EveryStepKeepsResultsLegal := by
  intro s t hinv hlegal hstep
  cases stepMove_of_step hstep with
  | phase ss hs hmove =>
    have hok := hinv.session_ok ss hs
    generalize s.nextAnswer = a at hmove
    cases hmove with
    | timeout _ hspent => exact hlegal.append rfl rfl (hok.timeout_legal hspent)
    | busFault hleft => exact hlegal.append rfl rfl (hok.busFault_legal hleft)
    | goOn => exact hlegal.of_eq rfl rfl
    | complete hleft hdone => exact hlegal.append rfl rfl (hinv.complete_legal hs hleft hdone)
  | idle => exact hlegal
  | unrecognised | notConfigured | configure => exact hlegal.append rfl rfl ⟨rfl, rfl⟩
  | accepted => exact hlegal.of_eq (by simp) (by simp)

/-! ### The transmit trace -/

/-- One more exchange of a well-kept session appends its phase's byte to the command's closed form (R157). -/
theorem SessionOk.commandTrace_succ {m : Nat} {ss : Session} (hok : SessionOk m ss) :
    commandTrace (phaseCmd ss.phase) (ss.xfers + 1) =
      commandTrace (phaseCmd ss.phase) ss.xfers ++ [txByte ss.phase] := by
  rw [hok.xfers_eq]
  cases ss.phase <;> simp [phaseCmd, exchangesMade, commandTrace, txByte, List.replicate_succ']

/-- A result of a session accounts for its command's exchanges. -/
theorem resultTrace_of_phase {r : Result} {p : Phase} (hp : r.phase = some p) :
    resultTrace r = commandTrace (phaseCmd p) (exchangesAttempted r) := by
  simp [resultTrace, hp]

/-- A call that ends at dispatch transmits nothing. -/
theorem resultTrace_of_no_phase {r : Result} (hp : r.phase = none) : resultTrace r = [] := by
  simp [resultTrace, hp]

theorem inFlightTrace_fresh (c : Cmd) : inFlightTrace (some (Session.fresh c)) = [] := by
  cases c <;> rfl

/-- Ending a command: what its result accounts for is what was in flight and what the step transmitted. -/
theorem TraceAccounted.end_command {s t : State} {r : Result} {sent : List Byte} (h : TraceAccounted s)
    (ht : t.session = none) (hres : t.results = s.results ++ [r]) (htx : t.txTrace = s.txTrace ++ sent)
    (hr : resultTrace r = inFlightTrace s.session ++ sent) : TraceAccounted t := by
  unfold TraceAccounted at h ⊢
  rw [ht, hres, htx, h, List.flatMap_append, List.flatMap_singleton, hr]
  simp [inFlightTrace]

/-- Going on: what is in flight grows by what the step transmitted. -/
theorem TraceAccounted.go_on {s t : State} {sent : List Byte} (h : TraceAccounted s) (hres : t.results = s.results)
    (htx : t.txTrace = s.txTrace ++ sent) (hflight : inFlightTrace t.session = inFlightTrace s.session ++ sent) :
    TraceAccounted t := by
  unfold TraceAccounted at h ⊢
  rw [hres, htx, h, hflight, List.append_assoc]

theorem GoesOn.inFlightTrace_eq {m : Nat} {c c' : Nat} {ss tt : Session} {b : Byte} (h : GoesOn c ss b c' tt)
    (hok : SessionOk m ss) : inFlightTrace (some tt) = inFlightTrace (some ss) ++ [txByte ss.phase] := by
  simp only [inFlightTrace]
  rw [phaseCmd_of_mem_nextPhases h.phase_mem, h.xfers_eq, hok.commandTrace_succ]

theorem TraceAccounted.phaseMove {s t : State} {ss : Session} {a : Answer} (h : TraceAccounted s)
    (hs : s.session = some ss) (hok : SessionOk s.maxAttempts ss) (hmove : PhaseMove s ss a t) : TraceAccounted t := by
  have hflight : inFlightTrace s.session = commandTrace (phaseCmd ss.phase) ss.xfers := by rw [hs]; rfl
  cases hmove with
  | timeout =>
    refine h.end_command (sent := []) rfl rfl (List.append_nil _).symm ?_
    rw [resultTrace_of_phase rfl, hflight, List.append_nil]
    rfl
  | busFault | complete =>
    refine h.end_command rfl rfl rfl ?_
    rw [resultTrace_of_phase rfl, hflight, ← hok.commandTrace_succ]
    rfl
  | goOn hleft hon =>
    refine h.go_on rfl rfl ?_
    rw [hs]
    exact hon.inFlightTrace_eq hok

/-- Settles O44, by the move the step makes. -/
theorem everyStepKeepsTheTraceAccounted : Obligations.EveryStepKeepsTheTraceAccounted := by
  intro s t hinv htrace hstep
  cases stepMove_of_step hstep with
  | phase ss hs hmove => exact htrace.phaseMove hs (hinv.session_ok ss hs) hmove
  | idle => exact htrace
  | unrecognised id cs hs | notConfigured id cs c hs | configure c cs hs =>
    refine htrace.end_command (sent := []) hs rfl (List.append_nil _).symm ?_
    rw [resultTrace_of_no_phase rfl, hs]
    rfl
  | accepted id cs c hs =>
    refine htrace.go_on (sent := []) (by simp) (by simp) ?_
    rw [beginCommand_session, inFlightTrace_fresh, hs]
    rfl

end Sys2Proof.Machine

/-! PROOFS. Every command ends (spec/41_command_sequencer.md R154): the bound on its steps, and the obligation O45
assembled from it. Then the run of a handshake loop whose answers keep it waiting, for the whole commands below. -/

namespace Sys2Proof.Machine

/-! ### Runs -/

theorem RunsTo.trans {j k : Nat} {s t u : State} (hj : RunsTo j s t) (hk : RunsTo k t u) : RunsTo (j + k) s u := by
  induction j generalizing s with
  | zero =>
    obtain rfl : s = t := Host.Outcome.next.inj hj
    rwa [Nat.zero_add]
  | succ j ih =>
    have hrun : Host.Core.run Sys2Proof.core (j + 1) s = .next t := hj
    simp only [Host.Core.run] at hrun
    split at hrun
    · rename_i v hv
      rw [Nat.add_right_comm]
      exact runsTo_succ hv (ih hrun)
    · cases hrun
    · cases hrun

theorem runsTo_one {s t : State} (h : step s = .next t) : RunsTo 1 s t := runsTo_succ h (runsTo_zero t)

/-! ### Every command ends (O45) -/

/-- A bound on the steps a session still takes under the budget `m` (R154, R292): the exchanges left in its loop, the
step that finds the budget spent, and the phases after the loop. -/
def stepsLeft (m : Nat) (ss : Session) : Nat :=
  match ss.phase with
  | .cbSync => m - ss.attempts + 1
  | .rpCmd => m + 4
  | .rpEcho => m - ss.attempts + 3
  | .rpShift => 3
  | .rpMsb => 2
  | .rpLsb => 1
  | .szCmd => m + 2
  | .szAck => m - ss.attempts + 1

theorem stepsLeft_le {m : Nat} (hm : 1 ≤ m) (ss : Session) : stepsLeft m ss ≤ m + 4 := by
  unfold stepsLeft
  split <;> omega

theorem stepsLeft_pos (m : Nat) (ss : Session) : 0 < stepsLeft m ss := by
  unfold stepsLeft
  split <;> omega

/-- Every step that goes on uses up one of them. -/
theorem GoesOn.stepsLeft_lt {s : State} {ss tt : Session} {c c' : Nat} {b : Byte} (h : GoesOn c ss b c' tt)
    (hok : SessionOk s.maxAttempts ss) (hleft : budgetSpent s ss = false) :
    stepsLeft s.maxAttempts tt < stepsLeft s.maxAttempts ss := by
  have hlt := hok.attempts_lt hleft
  cases h with
  | counted hp | echoed hp | notEchoed hp | notAcknowledged hp =>
    have hmore : ss.attempts < s.maxAttempts := hlt (by rw [hp]; rfl)
    simp only [stepsLeft, hp]
    omega
  | readSent hp | shifted hp | latched hp | zeroSent hp => simp [stepsLeft, hp]

/-- Under the invariant a command in flight makes a move, whatever the transport answers. -/
theorem Inv.exists_phaseMove {s : State} (hinv : Inv s) {ss : Session} (hs : s.session = some ss) (a : Answer) :
    ∃ t, PhaseMove s ss a t :=
  (Machine.exists_phaseMove s ss a).resolve_right fun ⟨hp, hm, _⟩ => hinv.msbNibble_ne_none hs hp hm

theorem ends_within (n : Nat) (s : State) (ss : Session) (hinv : Inv s) (hs : s.session = some ss)
    (hn : stepsLeft s.maxAttempts ss ≤ n) :
    ∃ k t r, 1 ≤ k ∧ k ≤ n ∧ RunsTo k s t ∧ t.session = none ∧ t.results = s.results ++ [r] := by
  induction n generalizing s ss with
  | zero => exact absurd hn (Nat.not_le.2 (stepsLeft_pos _ ss))
  | succ n ih =>
    obtain ⟨t, hmove⟩ := hinv.exists_phaseMove hs s.nextAnswer
    have hstep : step s = .next t := (StepMove.phase ss hs hmove).step_eq
    rcases hmove.delivers with ⟨hend, r, hres⟩ | ⟨hgoes, hres⟩
    · exact ⟨1, t, r, le_rfl, by omega, runsTo_one hstep, hend, hres⟩
    · obtain ⟨tt, ht⟩ := Option.ne_none_iff_exists'.1 hgoes
      obtain ⟨b, c, -, hleft, hon, -⟩ := hmove.goesOn_of_session ht
      have hfewer := hon.stepsLeft_lt (hinv.session_ok ss hs) hleft
      rw [← hmove.maxAttempts_eq] at hfewer hn
      obtain ⟨k, u, r, -, hk, hrun, hend, hres'⟩ := ih t tt (hinv.phaseMove hs hmove) ht (by omega)
      exact ⟨k + 1, u, r, by omega, by omega, runsTo_succ hstep hrun, hend, hres ▸ hres'⟩

/-- Settles O45, by induction on the steps left. -/
theorem everyCommandEnds : Obligations.EveryCommandEnds := fun s ss hinv hs =>
  ends_within _ s ss hinv hs (stepsLeft_le hinv.budget_pos ss)

/-! ### A handshake loop that keeps waiting -/

/-- `Waits p c bs c'`: the bytes `bs`, received one after the other, keep the loop of phase `p` going and take
sync_count from `c` to `c'`. -/
inductive Waits (p : Phase) : Nat → List Byte → Nat → Prop where
  | nil (c : Nat) : Waits p c [] c
  | cons {c c' c'' : Nat} {b : Byte} {bs : List Byte}
      (hon : ∀ ss : Session, ss.phase = p →
        GoesOn c ss b c' { ss with xfers := ss.xfers + 1, attempts := ss.attempts + 1 })
      (hbs : Waits p c' bs c'') : Waits p c (b :: bs) c''

/-- The state after a loop has waited for `n` more answers, the script being `rest` from there on. -/
def State.waited (s : State) (ss : Session) (n c : Nat) (rest : List Answer) : State :=
  { s with
    syncCount := c
    session := some { ss with xfers := ss.xfers + n, attempts := ss.attempts + n }
    answers := rest
    draws := s.draws + n
    txTrace := s.txTrace ++ List.replicate n opcodeNoOp }

theorem State.waited_zero {s : State} {ss : Session} (hs : s.session = some ss) :
    s.waited ss 0 s.syncCount s.answers = s := by
  simp [State.waited, ← hs]

theorem State.waited_succ {s : State} {ss : Session} (htx : txByte ss.phase = opcodeNoOp) (n c c' : Nat)
    (rest : List Answer) :
    (s.goOn ss c { ss with xfers := ss.xfers + 1, attempts := ss.attempts + 1 }).waited
        { ss with xfers := ss.xfers + 1, attempts := ss.attempts + 1 } n c' rest = s.waited ss (n + 1) c' rest := by
  simp [State.waited, State.goOn, State.afterXfer, htx, List.replicate_succ, Nat.add_assoc, Nat.add_comm 1 n]

@[simp] theorem byteScript_nil : byteScript [] = [] := rfl

@[simp] theorem byteScript_cons (b : Byte) (bs : List Byte) : byteScript (b :: bs) = .byte b :: byteScript bs := rfl

@[simp] theorem byteScript_append (bs bs' : List Byte) : byteScript (bs ++ bs') = byteScript bs ++ byteScript bs' :=
  List.map_append

/-- A step whose answer is scripted and keeps the command going. -/
theorem step_goOn {s : State} {ss tt : Session} {b : Byte} {c : Nat} {rest : List Answer} (hs : s.session = some ss)
    (hanswers : s.answers = .byte b :: rest) (hleft : budgetSpent s ss = false) (hon : GoesOn s.syncCount ss b c tt) :
    step s = .next (s.goOn ss c tt) := by
  rw [step_session hs, nextAnswer_cons hanswers]
  exact phaseStep_of_goesOn hleft hon

/-- A step whose answer is scripted and completes the command. -/
theorem step_complete {s : State} {ss : Session} {b : Byte} {c : Nat} {l : Link} {payload : Payload}
    {rest : List Answer} (hs : s.session = some ss) (hanswers : s.answers = .byte b :: rest)
    (hleft : budgetSpent s ss = false) (hdone : Completes s.syncCount s.link ss b c l payload) :
    step s = .next (s.complete ss c l payload) := by
  rw [step_session hs, nextAnswer_cons hanswers]
  exact phaseStep_of_completes hleft hdone

/-- A step that finds the budget spent. -/
theorem step_timeout {s : State} {ss : Session} (hs : s.session = some ss) (hspent : budgetSpent s ss = true) :
    step s = .next (s.raiseInSession .syncTimeout ss) := by
  rw [step_session hs]
  exact phaseStep_timeout hspent _

/-- A loop whose answers keep it waiting, the budget sufficing, makes an exchange for each of them. -/
theorem runsTo_waited {p : Phase} {c c' : Nat} {bs : List Byte} (hw : Waits p c bs c')
    (htx : txByte p = opcodeNoOp) {s : State} {ss : Session} {rest : List Answer} (hs : s.session = some ss)
    (hp : ss.phase = p) (hc : s.syncCount = c) (hanswers : s.answers = byteScript bs ++ rest)
    (hbudget : ss.attempts + bs.length ≤ s.maxAttempts) : RunsTo bs.length s (s.waited ss bs.length c' rest) := by
  induction hw generalizing s ss with
  | nil c =>
    subst hc
    have hrest : s.answers = rest := hanswers
    rw [List.length_nil, ← hrest, State.waited_zero hs]
    exact runsTo_zero s
  | @cons c c₁ c₂ b bs hon hbs ih =>
    subst hc
    rw [List.length_cons] at hbudget ⊢
    rw [byteScript_cons, List.cons_append] at hanswers
    have hleft : budgetSpent s ss = false := budgetSpent_eq_false (by omega)
    have hrest := ih (s := s.goOn ss c₁ { ss with xfers := ss.xfers + 1, attempts := ss.attempts + 1 }) rfl hp rfl
      (by simp [hanswers]) (by simp only [State.goOn_maxAttempts]; omega)
    rw [State.waited_succ (hp ▸ htx)] at hrest
    exact runsTo_succ (step_goOn hs hanswers hleft (hon ss hp)) hrest

/-- A loop that has waited until its budget is spent times out in one more step, without an exchange. -/
theorem runsTo_timeout {p : Phase} {c c' : Nat} {bs : List Byte} (hw : Waits p c bs c') (hl : isLoop p = true)
    (htx : txByte p = opcodeNoOp) {s : State} {ss : Session} {rest : List Answer} (hs : s.session = some ss)
    (hp : ss.phase = p) (hc : s.syncCount = c) (hanswers : s.answers = byteScript bs ++ rest)
    (hbudget : ss.attempts + bs.length = s.maxAttempts) :
    RunsTo (bs.length + 1) s ((s.waited ss bs.length c' rest).raiseInSession .syncTimeout
      { ss with xfers := ss.xfers + bs.length, attempts := ss.attempts + bs.length }) :=
  (runsTo_waited hw htx hs hp hc hanswers hbudget.le).trans
    (runsTo_one (step_timeout rfl ((budgetSpent_iff _ _).2 ⟨hp ▸ hl, hbudget⟩)))

/-- A loop that treats every byte of `bs` as a mismatch, the counter being none of its business, waits for them all. -/
theorem waits_of_mismatches {p : Phase} {bs : List Byte}
    (hbs : ∀ b ∈ bs, ∀ (c : Nat) (ss : Session), ss.phase = p →
      GoesOn c ss b c { ss with xfers := ss.xfers + 1, attempts := ss.attempts + 1 }) (c : Nat) : Waits p c bs c := by
  induction bs with
  | nil => exact .nil c
  | cons b bs ih =>
    rw [List.forall_mem_cons] at hbs
    exact .cons (hbs.1 c) (ih hbs.2)

theorem waits_rpEcho {bs : List Byte} (hbs : ∀ b ∈ bs, b ≠ valueEchoRead) (c : Nat) : Waits .rpEcho c bs c :=
  waits_of_mismatches (fun b hb _ _ hp => .notEchoed hp (hbs b hb)) c

theorem waits_szAck {bs : List Byte} (hbs : ∀ b ∈ bs, b ≠ valueAckZero) (c : Nat) : Waits .szAck c bs c :=
  waits_of_mismatches (fun b hb _ _ hp => .notAcknowledged hp (hbs b hb)) c

end Sys2Proof.Machine

/-! PROOFS. Whole commands from acceptance to result (spec/42_sync_detector.md R175, R176, spec/43_read_position.md
R190, R194, R202, spec/44_set_zero.md R220, R223), and the obligations O46 to O51 assembled from the run
of their loop and the exchanges after it. -/

namespace Sys2Proof.Machine

/-! ### clear_buffer (O46, O47) -/

/-- While no two bytes running are 0xA5, the counter says of the last byte whether it was one (R173, R174). `a` is the
byte before `bs`. -/
theorem waits_cbSync_after {a : Byte} {bs : List Byte} (h : NoDoubleAck (a :: bs)) :
    Waits .cbSync (nextSyncCount 0 a) bs (nextSyncCount 0 ((a :: bs).getLast (List.cons_ne_nil a bs))) := by
  induction bs generalizing a with
  | nil => exact .nil _
  | cons b bs ih =>
    obtain ⟨hpair, hrest⟩ := h
    have hcount : nextSyncCount (nextSyncCount 0 a) b = nextSyncCount 0 b := by
      by_cases hb : b = valueAckIdle
      · have ha : a ≠ valueAckIdle := fun ha => hpair ⟨ha, hb⟩
        rw [nextSyncCount_of_ne ha]
      · rw [nextSyncCount_of_ne hb, nextSyncCount_of_ne hb]
    have hle : nextSyncCount 0 b ≤ 1 := nextSyncCount_le 0 b
    rw [List.getLast_cons_cons]
    refine .cons (fun ss hp => ?_) (ih hrest)
    rw [← hcount]
    exact .counted hp (by omega)

/-- From a cleared counter, as after a byte that is no acknowledgement. -/
theorem waits_cbSync {bs : List Byte} (h : NoDoubleAck bs) :
    Waits .cbSync 0 bs (if bs.getLast? = some 0xA5 then 1 else 0) := by
  have hcons : NoDoubleAck (0x00 :: bs) := by
    cases bs with
    | nil => trivial
    | cons b bs => exact ⟨fun hpair => absurd hpair.1 (by decide), h⟩
  have hlast : nextSyncCount 0 ((0x00 :: bs).getLast (List.cons_ne_nil _ bs)) =
      if bs.getLast? = some 0xA5 then 1 else 0 := by
    rcases bs.eq_nil_or_concat with rfl | ⟨_, b, rfl⟩
    · rfl
    · simp [nextSyncCount_eq_ite, valueAckIdle]
  exact hlast ▸ waits_cbSync_after hcons

theorem exec_hostClearBuffer_ready {s : State} (hs : ReadyForCommand s) :
    exec .hostClearBuffer s = .next (beginClearBuffer s.takeCall) := by
  rw [exec_hostClearBuffer, dispatch_accepted hs.no_session hs.configured]
  rfl

/-- Settles O46: the loop waits up to and including the first of the two acknowledgements, and the second completes the
command. -/
theorem clearBufferSucceedsAtTheFirstDoubleAck : Obligations.ClearBufferSucceedsAtTheFirstDoubleAck := by
  intro s before rest hready hanswers hbefore hbudget
  refine ⟨_, exec_hostClearBuffer_ready hready, ?run⟩
  have hwaits : Waits .cbSync 0 (before ++ [valueAckIdle]) 1 := by simpa [valueAckIdle] using waits_cbSync hbefore
  have hwaited := runsTo_waited hwaits rfl (s := beginClearBuffer s.takeCall) (ss := Session.fresh .cb)
    (rest := .byte valueAckIdle :: rest) rfl rfl rfl
    (by simp [hanswers, valueAckIdle]) (by simp; omega)
  have hdone := step_complete (s := (beginClearBuffer s.takeCall).waited (Session.fresh .cb)
    (before ++ [valueAckIdle]).length 1 (.byte valueAckIdle :: rest)) rfl rfl
    (budgetSpent_eq_false (by simp [State.waited]; omega)) (.synced rfl rfl)
  convert hwaited.trans (runsTo_one hdone) using 1
  · simp
  · simp [State.complete, State.waited, State.afterXfer, hready.no_session, firstPhase, txByte, opcodeNoOp,
      List.replicate_succ', Nat.add_assoc]

/-- Settles O47: the loop waits for the whole script and then finds its budget spent. -/
theorem clearBufferTimesOutWithoutDoubleAck : Obligations.ClearBufferTimesOutWithoutDoubleAck := by
  intro s bs rest hready hanswers hbs hbudget
  refine ⟨_, exec_hostClearBuffer_ready hready, ?run⟩
  have hrun := runsTo_timeout (waits_cbSync hbs) rfl rfl (s := beginClearBuffer s.takeCall)
    (ss := Session.fresh .cb) rfl rfl rfl hanswers (by simpa using hbudget)
  convert hrun using 1
  simp [State.raiseInSession, State.waited, hready.no_session, firstPhase, opcodeNoOp, hbudget]

/-! ### The opcode of read_pos and of set_zero -/

/-- The state after a command has been accepted and its opcode has been answered: its handshake loop begins. -/
def State.opcodeSent (s : State) (c : Cmd) (loop : Phase) : State :=
  { s with
    program := s.program.tail
    session := some ⟨c, loop, 1, 0, none, none⟩
    answers := s.answers.tail
    draws := s.draws + 1
    txTrace := s.txTrace ++ [txByte (firstPhase c)] }

/-- Accepting read_pos and sending READ_POSITION, whatever the answer is (R191, R192). -/
theorem readPos_opcodeSent {s : State} (hready : ReadyForCommand s) {first : Byte} {as : List Answer}
    (hanswers : s.answers = .byte first :: as) :
    exec .hostReadPos s = .next (beginReadPos s.takeCall) ∧
      step (beginReadPos s.takeCall) = .next (s.opcodeSent .rp .rpEcho) := by
  constructor
  · rw [exec_hostReadPos, dispatch_accepted hready.no_session hready.configured]
    rfl
  · exact step_goOn (ss := Session.fresh .rp) rfl hanswers (budgetSpent_of_not_isLoop rfl _) (.readSent rfl)

/-- Accepting set_zero and sending SET_ZERO, whatever the answer is (R221, R222). -/
theorem setZero_opcodeSent {s : State} (hready : ReadyForCommand s) {first : Byte} {as : List Answer}
    (hanswers : s.answers = .byte first :: as) :
    exec .hostSetZero s = .next (beginSetZero s.takeCall) ∧
      step (beginSetZero s.takeCall) = .next (s.opcodeSent .sz .szAck) := by
  constructor
  · rw [exec_hostSetZero, dispatch_accepted hready.no_session hready.configured]
    rfl
  · exact step_goOn (ss := Session.fresh .sz) rfl hanswers (budgetSpent_of_not_isLoop rfl _) (.zeroSent rfl)

/-- The state in which the handshake loop of a command has waited for `n` answers, the script being `rest` from there
on. -/
def State.handshook (s : State) (c : Cmd) (loop : Phase) (n : Nat) (rest : List Answer) : State :=
  (s.opcodeSent c loop).waited ⟨c, loop, 1, 0, none, none⟩ n s.syncCount rest

/-- The session in which the handshake loop of a command has waited for `n` answers. -/
def Session.handshook (c : Cmd) (loop : Phase) (n : Nat) : Session := ⟨c, loop, 1 + n, 0 + n, none, none⟩

/-- Before the loop has waited as often as its budget allows, it has an attempt left. -/
theorem handshook_attempts_ne {s : State} {n : Nat} (h : n < s.maxAttempts) (c : Cmd) (loop : Phase)
    (rest : List Answer) : (Session.handshook c loop n).attempts ≠ (s.handshook c loop n rest).maxAttempts :=
  (Nat.zero_add n).trans_ne h.ne

section
variable {s s₁ : State} {c : Cmd} {loop : Phase} {first : Byte} {waits : List Byte} {rest : List Answer}

/-- From the acceptance of the command: its opcode, and the answers that keep the loop waiting. -/
theorem runsTo_handshook (hopcode : step s₁ = .next (s.opcodeSent c loop)) (htx : txByte loop = opcodeNoOp)
    (hw : Waits loop s.syncCount waits s.syncCount) (hanswers : s.answers = .byte first :: (byteScript waits ++ rest))
    (hbudget : waits.length ≤ s.maxAttempts) :
    RunsTo (waits.length + 1) s₁ (s.handshook c loop waits.length rest) :=
  runsTo_succ hopcode (runsTo_waited hw htx rfl rfl rfl (congrArg List.tail hanswers)
    (by simpa [State.opcodeSent] using hbudget))

/-- From the acceptance of the command: its opcode, as many answers that keep the loop waiting as its budget allows, and
the step that finds the budget spent. -/
theorem runsTo_handshake_timeout (hopcode : step s₁ = .next (s.opcodeSent c loop)) (hl : isLoop loop = true)
    (htx : txByte loop = opcodeNoOp) (hw : Waits loop s.syncCount waits s.syncCount) (hs : s.session = none)
    (hanswers : s.answers = .byte first :: (byteScript waits ++ rest)) (hbudget : waits.length = s.maxAttempts) :
    RunsTo (waits.length + 2) s₁ { s with
      program := s.program.tail, link := .idle, answers := rest, draws := s.draws + (waits.length + 1),
      txTrace := s.txTrace ++ txByte (firstPhase c) :: List.replicate waits.length opcodeNoOp,
      results := s.results ++ [.fault .syncTimeout (some loop) (s.maxAttempts + 1)] } := by
  have hspent : budgetSpent (s.handshook c loop waits.length rest) (Session.handshook c loop waits.length) = true :=
    (budgetSpent_iff _ _).2 ⟨hl, (Nat.zero_add _).trans hbudget⟩
  have hrun := (runsTo_handshook hopcode htx hw hanswers hbudget.le).trans (runsTo_one (step_timeout rfl hspent))
  convert hrun using 1
  simp [State.raiseInSession, State.handshook, State.waited, State.opcodeSent, hs, hbudget,
    Nat.add_assoc, Nat.add_comm 1]

end

/-! ### The exchanges that end a command -/

/-- The state after `n` more exchanges of no-ops have ended the command with the result `r`, the script being `rest`
from there on. -/
def State.ended (s : State) (n : Nat) (r : Result) (rest : List Answer) : State :=
  { s with
    session := none
    answers := rest
    draws := s.draws + n
    txTrace := s.txTrace ++ List.replicate n opcodeNoOp
    results := s.results ++ [r] }

theorem State.complete_eq_ended {s : State} {ss : Session} (htx : txByte ss.phase = opcodeNoOp) (payload : Payload) :
    s.complete ss s.syncCount s.link payload =
      s.ended 1 (.ok (some ss.phase) (ss.xfers + 1) payload) s.answers.tail := by
  simp [State.complete, State.ended, State.afterXfer, htx]

theorem State.goOn_ended {s : State} {ss : Session} (htx : txByte ss.phase = opcodeNoOp) (tt : Session) (n : Nat)
    (r : Result) (rest : List Answer) : (s.goOn ss s.syncCount tt).ended n r rest = s.ended (n + 1) r rest := by
  simp [State.goOn, State.ended, State.afterXfer, htx, List.replicate_succ, Nat.add_assoc, Nat.add_comm 1 n]

/-- A scripted no-op exchange that keeps the command going, before a run that ends it. -/
theorem runsTo_ended_succ {s : State} {ss tt : Session} {b : Byte} {as rest : List Answer} {n : Nat} {r : Result}
    (htx : txByte ss.phase = opcodeNoOp) (hs : s.session = some ss) (hanswers : s.answers = .byte b :: as)
    (hleft : budgetSpent s ss = false) (hon : GoesOn s.syncCount ss b s.syncCount tt)
    (hrun : RunsTo n (s.goOn ss s.syncCount tt) ((s.goOn ss s.syncCount tt).ended n r rest)) :
    RunsTo (n + 1) s (s.ended (n + 1) r rest) := by
  rw [State.goOn_ended htx] at hrun
  exact runsTo_succ (step_goOn hs hanswers hleft hon) hrun

section
variable {s : State} {ss : Session} {shifted b4 b5 : Byte} {rest : List Answer}

theorem runsTo_ended_of_rpLsb {m : Nibble} (hs : s.session = some ss) (hp : ss.phase = .rpLsb)
    (hm : ss.msbNibble = some m) (hanswers : s.answers = .byte b5 :: rest) :
    RunsTo 1 s (s.ended 1 (.ok (some .rpLsb) (ss.xfers + 1) (.position (assemblePosition m b5))) rest) := by
  have hstep := step_complete hs hanswers (budgetSpent_of_not_isLoop (by rw [hp]; rfl) s) (.positioned hp m hm)
  rw [State.complete_eq_ended (by rw [hp]; rfl), hp, hanswers] at hstep
  exact runsTo_one hstep

theorem runsTo_ended_of_rpMsb (hs : s.session = some ss) (hp : ss.phase = .rpMsb)
    (hanswers : s.answers = byteScript [b4, b5] ++ rest) :
    RunsTo 2 s (s.ended 2 (.ok (some .rpLsb) (ss.xfers + 2) (.position (decodePosition b4 b5))) rest) :=
  runsTo_ended_succ (by rw [hp]; rfl) hs hanswers (budgetSpent_of_not_isLoop (by rw [hp]; rfl) s) (.latched hp)
    (runsTo_ended_of_rpLsb
      (ss := { ss with phase := .rpLsb, xfers := ss.xfers + 1, msbNibble := some (latchNibble b4) })
      rfl rfl rfl (congrArg List.tail hanswers))

theorem runsTo_ended_of_rpShift (hs : s.session = some ss) (hp : ss.phase = .rpShift)
    (hanswers : s.answers = byteScript [shifted, b4, b5] ++ rest) :
    RunsTo 3 s (s.ended 3 (.ok (some .rpLsb) (ss.xfers + 3) (.position (decodePosition b4 b5))) rest) :=
  runsTo_ended_succ (by rw [hp]; rfl) hs hanswers (budgetSpent_of_not_isLoop (by rw [hp]; rfl) s) (.shifted hp)
    (runsTo_ended_of_rpMsb (ss := { ss with phase := .rpMsb, xfers := ss.xfers + 1 })
      rfl rfl (congrArg List.tail hanswers))

theorem runsTo_ended_of_echo (hs : s.session = some ss) (hp : ss.phase = .rpEcho) (ha : ss.attempts ≠ s.maxAttempts)
    (hanswers : s.answers = byteScript [valueEchoRead, shifted, b4, b5] ++ rest) :
    RunsTo 4 s (s.ended 4 (.ok (some .rpLsb) (ss.xfers + 4) (.position (decodePosition b4 b5))) rest) :=
  runsTo_ended_succ (by rw [hp]; rfl) hs hanswers (budgetSpent_eq_false ha) (.echoed hp rfl)
    (runsTo_ended_of_rpShift (ss := { ss with phase := .rpShift, xfers := ss.xfers + 1, attempts := ss.attempts + 1 })
      rfl rfl (congrArg List.tail hanswers))

theorem runsTo_ended_of_acknowledgement (hs : s.session = some ss) (hp : ss.phase = .szAck)
    (ha : ss.attempts ≠ s.maxAttempts) (hanswers : s.answers = .byte valueAckZero :: rest) :
    RunsTo 1 s (s.ended 1 (.ok (some .szAck) (ss.xfers + 1) (.powerCycleRequired true)) rest) := by
  have hstep := step_complete hs hanswers (budgetSpent_eq_false ha) (.zeroed hp rfl)
  rw [State.complete_eq_ended (by rw [hp]; rfl), hp, hanswers] at hstep
  exact runsTo_one hstep

end

/-! ### read_pos (O48, O49) -/

/-- The position of the two data bytes as a number modulo 4096 (R198). -/
theorem decodePosition_eq_ofNat (b4 b5 : Byte) :
    decodePosition b4 b5 = BitVec.ofNat 12 (256 * (b4.toNat % 16) + b5.toNat) := by
  rw [← decodePosition_toNat, BitVec.ofNat_toNat, BitVec.setWidth_eq]

/-- Settles O48: the opcode, the wait for the echo, and the four exchanges from the echo on. -/
theorem readPosDeliversTheEncodersPosition : Obligations.ReadPosDeliversTheEncodersPosition := by
  intro s first shifted b4 b5 waits rest hready hanswers hwaits hbudget
  have hscript : s.answers = .byte first :: (byteScript waits ++
      (byteScript [valueEchoRead, shifted, b4, b5] ++ rest)) := by
    simp [hanswers, readAnswers]
  obtain ⟨hexec, hopcode⟩ := readPos_opcodeSent hready hscript
  refine ⟨_, hexec, ?run⟩
  have hwaited := runsTo_handshook hopcode rfl (waits_rpEcho hwaits _) hscript hbudget.le
  have hdone := hwaited.trans (runsTo_ended_of_echo rfl rfl (handshook_attempts_ne hbudget _ _ _) rfl)
  convert hdone using 1
  simp [State.ended, State.handshook, State.waited, State.opcodeSent, hready.no_session, decodePosition_eq_ofNat,
    firstPhase, txByte, opcodeReadPosition, opcodeNoOp, List.replicate_succ', Nat.add_assoc,
    Nat.add_comm 1]

/-- Settles O49: the opcode, and a wait for the echo that spends the budget. -/
theorem readPosTimesOutWithoutEcho : Obligations.ReadPosTimesOutWithoutEcho := by
  intro s first waits rest hready hanswers hwaits hbudget
  obtain ⟨hexec, hopcode⟩ := readPos_opcodeSent hready hanswers
  exact ⟨_, hexec,
    runsTo_handshake_timeout hopcode rfl rfl (waits_rpEcho hwaits _) hready.no_session hanswers hbudget⟩

/-! ### set_zero (O50, O51) -/

/-- Settles O50: the opcode, the wait for the acknowledgement, and the acknowledgement. -/
theorem setZeroDeliversThePowerCycleNotice : Obligations.SetZeroDeliversThePowerCycleNotice := by
  intro s first waits rest hready hanswers hwaits hbudget
  have hscript : s.answers = .byte first :: (byteScript waits ++ .byte valueAckZero :: rest) := by
    simp [hanswers, zeroAnswers]
  obtain ⟨hexec, hopcode⟩ := setZero_opcodeSent hready hscript
  refine ⟨_, hexec, ?run⟩
  have hwaited := runsTo_handshook hopcode rfl (waits_szAck hwaits _) hscript hbudget.le
  have hdone := hwaited.trans (runsTo_ended_of_acknowledgement rfl rfl (handshook_attempts_ne hbudget _ _ _) rfl)
  convert hdone using 1
  simp [State.ended, State.handshook, State.waited, State.opcodeSent, hready.no_session, firstPhase,
    txByte, opcodeSetZero, opcodeNoOp, List.replicate_succ', Nat.add_assoc, Nat.add_comm 1]

/-- Settles O51: the opcode, and a wait for the acknowledgement that spends the budget. -/
theorem setZeroTimesOutWithoutAcknowledgement : Obligations.SetZeroTimesOutWithoutAcknowledgement := by
  intro s first waits rest hready hanswers hwaits hbudget
  obtain ⟨hexec, hopcode⟩ := setZero_opcodeSent hready hanswers
  exact ⟨_, hexec,
    runsTo_handshake_timeout hopcode rfl rfl (waits_szAck hwaits _) hready.no_session hanswers hbudget⟩

end Sys2Proof.Machine

/-! PROOFS. The codes on the outputs (spec/10_state.md R24, R26, R33, spec/60_exceptions.md R235), and the obligation
O52 assembled from them. -/

namespace Sys2Proof.Machine

/-- A code that is distinct along a list of all values tells the values apart. -/
theorem code_eq_iff {α β : Type} {code : α → β} {values : List α} (hall : ∀ a, a ∈ values)
    (hdistinct : (values.map code).Nodup) (a b : α) : code a = code b ↔ a = b :=
  ⟨fun h => List.inj_on_of_nodup_map hdistinct (hall a) (hall b) h, congrArg code⟩

theorem linkCode_eq_iff (l l' : Link) : l.code = l'.code ↔ l = l' :=
  code_eq_iff (values := [.idle, .syncing, .ready]) (by rintro (_ | _ | _) <;> decide) (by decide) l l'

theorem phaseCode_eq_iff (p q : Option Phase) : phaseCode p = phaseCode q ↔ p = q :=
  code_eq_iff (values := [none, some .cbSync, some .rpCmd, some .rpEcho, some .rpShift, some .rpMsb, some .rpLsb,
    some .szCmd, some .szAck]) (by rintro (_ | _ | _) <;> decide) (by decide) p q

theorem faultCode_eq_iff (k k' : FaultKind) : k.code = k'.code ↔ k = k' :=
  code_eq_iff (values := [.busFault, .syncTimeout, .invalidCommand, .notConfigured])
    (by rintro (_ | _ | _) <;> decide) (by decide) k k'

theorem faultCode_ne_zero (k : FaultKind) : k.code ≠ 0 := by
  cases k <;> decide

/-- The kind of a result is 0 exactly for OK, the codes of the faults being other numbers (R33, R235). -/
theorem resultKind_eq_zero_iff (r : Result) : r.kind = 0 ↔ ∃ p n x, r = .ok p n x := by
  cases r with
  | ok p n x => exact ⟨fun _ => ⟨p, n, x, rfl⟩, fun _ => rfl⟩
  | fault k p n => exact ⟨fun h => absurd h (faultCode_ne_zero k), fun ⟨_, _, _, h⟩ => by cases h⟩

/-- A fault carries no payload (R237). -/
theorem resultKind_eq_zero_of_payload {r : Result} (h : r.position ≠ none ∨ r.powerCycleRequired ≠ none) :
    r.kind = 0 := by
  cases r with
  | ok => rfl
  | fault => exact absurd h (by simp [Result.position, Result.powerCycleRequired])

/-- Settles O52. -/
theorem outputCodesAreThoseOfTheTables : Obligations.OutputCodesAreThoseOfTheTables :=
  ⟨linkCode_eq_iff, phaseCode_eq_iff, faultCode_eq_iff, resultKind_eq_zero_iff,
    fun _ => resultKind_eq_zero_of_payload, rfl, rfl, rfl⟩

end Sys2Proof.Machine
